-- ==== Sys2Proof/Word.lean ====
section
/-! DEFINITION. The two widths of the engine's data (spec/00_scope.md R10: `u8` and `u32`; every value is unsigned). -/

namespace Sys2Proof

/-- `u8` of R10: a wire byte, an address byte, an opcode, a host operand. -/
abbrev Byte := BitVec 8

/-- `u32` of R10: the tick counter, a diagnostic counter, a timer field, a status word. -/
abbrev Word := BitVec 32

end Sys2Proof
end

