-- ==== Sys2Proof/Config.lean ====
section
/-! DEFINITION. What an implementation fixes: the parameters of spec/00_scope.md R8, the fixed ones as numbers,
the OPEN ones as the fields of `Params`. No rule writes a parameter (20_memory.md R98). The model takes the OPEN
parameters as data that every state carries (`State.params`), so that a statement about every state is a statement
about every choice of them; the block right after reset carries `Config.params`, a constant without a body, so that
nothing can be proved of its values (notes/assumptions/1.md). -/

namespace Sys2Proof

/-- The OPEN parameters of R8 (decisions D1, D2, D33): five control codes, seven intervals in ticks, and the largest
queue capacity. -/
structure Params where
  ccEtx  : Byte
  ccEot  : Byte
  ccAck  : Byte
  ccNack : Byte
  ccPoll : Byte
  tSilence       : Word
  tSendDelay     : Word
  tLoopback      : Word
  tReply         : Word
  tAckDelay      : Word
  tResyncOnline  : Word
  tResyncOffline : Word
  queueCapMax    : Byte
deriving DecidableEq, Repr, Inhabited

/-- `CC_STX`, the one control code with a value in the spec (R8, R100). -/
def ccStx : Byte := 0x02#8

/-- `N_CH`, the number of channel slots (R8). -/
abbrev nCh : Nat := 32

/-- `MAX_PAYLOAD` (R8). -/
def maxPayload : Nat := 50

/-- `MAX_FRAME`, the size of the receive and of the transmit buffer (R8). -/
def maxFrame : Nat := 256

/-- `MAX_RETRY` (R8). -/
def maxRetry : Byte := 3#8

/-- `NOT_RESPOND_MAX` (R8; 90_conflicts.md C2). -/
def notRespondMax : Byte := 3#8

/-- The capacities that are powers of two from 1 to 128 (R8, 20_memory.md R84). -/
def powersOfTwo : List Byte := [1#8, 2#8, 4#8, 8#8, 16#8, 32#8, 64#8, 128#8]

/-- The constraint R9 puts on the control codes: the four codes the decoder dispatches on are pairwise different. -/
abbrev Params.CodesDistinct (p : Params) : Prop :=
  p.ccAck ≠ p.ccNack ∧ p.ccAck ≠ p.ccEot ∧ p.ccAck ≠ ccStx ∧
  p.ccNack ≠ p.ccEot ∧ p.ccNack ≠ ccStx ∧ p.ccEot ≠ ccStx

/-- Every constraint R8 and R9 put on the OPEN parameters. It is a premise of the statements that need it, never
assumed of the machine. -/
abbrev Params.Legal (p : Params) : Prop :=
  p.CodesDistinct ∧
  0#32 < p.tSilence ∧ 0#32 < p.tSendDelay ∧ 0#32 < p.tLoopback ∧ 0#32 < p.tReply ∧ 0#32 < p.tAckDelay ∧
  0#32 < p.tResyncOnline ∧ p.tResyncOnline < p.tResyncOffline ∧ p.queueCapMax ∈ powersOfTwo

/-- The "vector value" column of R8: the values the test vectors of 95_test_vectors.md and the words of
opcode_table.json are written with. No meaning mentions it; tests and `decodeTableWord` do. -/
def Params.vector : Params where
  ccEtx  := 0x03#8
  ccEot  := 0x04#8
  ccAck  := 0x06#8
  ccNack := 0x15#8
  ccPoll := 0x05#8
  tSilence       := 2#32
  tSendDelay     := 1#32
  tLoopback      := 5#32
  tReply         := 5#32
  tAckDelay      := 1#32
  tResyncOnline  := 50#32
  tResyncOffline := 200#32
  queueCapMax    := 16#8

/-- The parameters the block was built with (R8: "A model takes each `OPEN` entry as an argument. It must not assume
any value"). No body: nothing about it can be computed or proved. Log entry 1. -/
opaque Config.params : Params

end Sys2Proof
end

