-- ==== Sys2Proof/Syntax.lean ====
section
/-! DEFINITION. The abstract syntax: one constructor of `Instr` for each row of spec/opcode_table.json (eleven host
command records, 30_encoding.md R114, and six wire frames, R101 to R106), the small types its operands are made of,
and `Strobe`, the encoded form in which an agent outside the block hands the block one of them. -/

namespace Sys2Proof

/-- The role of the station (10_state.md R35, R70): MASTER = 0, SLAVE = 1. -/
inductive Role where
  | master
  | slave
deriving DecidableEq, Repr

/-- A packet (20_memory.md R83); its "length" is `payload.length`, 0 to 50 in every packet the block holds. -/
structure Packet where
  address : Byte
  opcode  : Byte
  payload : List Byte
deriving DecidableEq, Repr

/-- The kinds of frame the codec can encode, each with what it carries (40_codec.md R141 to R146). The kinds ERROR and
NONE are verdicts of the decoder only (R147), so they have no constructor here. -/
inductive Frame where
  | ack
  | nack
  | eot
  | poll (address : Byte)
  | select (packet : Packet)
  | respond (packet : Packet)
deriving DecidableEq, Repr

/-- The instructions: the rows of spec/opcode_table.json in the table's order. A host command is a request on the host
port (46_host.md); TICK and RX_BYTE are the two event inputs (R332, R333); a wire frame is a frame that another
station, or the echo, puts on the line (log entry 4). -/
inductive Instr where
  | init (role : Role) (address : Byte)
  | createChannel (address : Byte) (pollActive selectActive : Bool) (outCap inCap : Byte)
  | start
  | send (id opcode : Byte) (payload : List Byte)
  | receive (id : Byte)
  | isDataAvailable (id : Byte)
  | channelState (id : Byte)
  | readStatus (selector : Byte)
  | readChannel (id selector : Byte)
  | tick
  | rxByte (b : Byte)
  | ack
  | nack
  | eot
  | poll (address : Byte)
  | select (address opcode : Byte) (payload : List Byte)
  | respond (address opcode : Byte) (payload : List Byte)
deriving DecidableEq, Repr

/-- One input of the block, still encoded: a delimited host command record (30_encoding.md R113), or the bytes of one
frame on the wire, which reach the block through the byte input with no tick between them (R118's `RXF`). -/
inductive Strobe where
  | record (bytes : List Byte)
  | frame (bytes : List Byte)
deriving DecidableEq, Repr

end Sys2Proof
end

