-- ==== Sys2Proof/WellFormed.lean ====
section
/-! DEFINITION. Which terms of `Instr` are legal: the operand ranges of 30_encoding.md R116 that the types of the
constructors leave open, and the payload bound of 40_codec.md R158. The other clauses of R116 (an unknown opcode, a
wrong length, a role above 1, a reserved flag bit) cannot be written as a term: `decodeStrobe` rejects them. -/

namespace Sys2Proof

/-- READ_STATUS selectors run from 0x00 to 0x09 (R114, R116). -/
def statusSelectorOk (s : Byte) : Bool := s.toNat ≤ 9

/-- READ_CHANNEL selectors run from 0x00 to 0x03 (R114, R116). -/
def channelSelectorOk (s : Byte) : Bool := s.toNat ≤ 3

/-- The slot operand of READ_CHANNEL runs from 0x00 to 0x1F (R114, R116). -/
def slotOk (id : Byte) : Bool := id.toNat < nCh

/-- SEND carries its payload length in one byte (R113, R114). A payload above `maxPayload` is well formed: it is
rejected, not illegal (R116). -/
def sendLengthOk (payload : List Byte) : Bool := payload.length ≤ 255

/-- A SELECT or RESPOND frame carries 0 to 50 payload bytes (R105, R106, R158). -/
def framePayloadOk (payload : List Byte) : Bool := payload.length ≤ maxPayload

/-- The legality of an instruction term. -/
def Instr.wellFormed : Instr → Bool
  | .init _ _ => true
  | .createChannel _ _ _ _ _ => true
  | .start => true
  | .send _ _ payload => sendLengthOk payload
  | .receive _ => true
  | .isDataAvailable _ => true
  | .channelState _ => true
  | .readStatus s => statusSelectorOk s
  | .readChannel id s => slotOk id && channelSelectorOk s
  | .tick => true
  | .rxByte _ => true
  | .ack => true
  | .nack => true
  | .eot => true
  | .poll _ => true
  | .select _ _ payload => framePayloadOk payload
  | .respond _ _ payload => framePayloadOk payload

end Sys2Proof
end

