-- ==== Sys2Proof/Decode.lean ====
section
/-! DEFINITION. The two decoders and the encoder. Wire frames: the packet codec of 40_codec.md (R140 to R159), a pure
function pair. Host records: 30_encoding.md R113 to R116. `decodeStrobe` reads an instruction from an encoded input,
`encode` writes the input of an instruction, and `decodeTableWord` answers for the words of spec/opcode_table.json. -/

namespace Sys2Proof

/-! ## The packet codec -/

/-- The kind of a received frame (10_state.md R66, 40_codec.md R150). -/
inductive FrameKind where
  | none
  | ack
  | nack
  | eot
  | poll
  | select
  | respond
  | error
deriving DecidableEq, Repr

/-- `xor_fold` of 00_scope.md R11. -/
def xorFold : List Byte → Byte
  | [] => 0x00#8
  | b :: bs => b ^^^ xorFold bs

/-- The block check of R140 and 30_encoding.md R107. -/
def bcc (s : List Byte) : Byte := xorFold s

/-- `s[i..j]` of 00_scope.md R10: the bytes at indices `i` to `j` inclusive, empty when `j < i`. -/
def slice (s : List Byte) (i j : Nat) : List Byte := (s.take (j + 1)).drop i

/-- The bytes from the address byte through ETX, the region the block check covers (R107, R145, R146). -/
def frameBody (p : Params) (q : Packet) : List Byte := [q.address, q.opcode] ++ q.payload ++ [p.ccEtx]

/-- `encode` of R141 to R146, with the layouts of 30_encoding.md R101 to R106. -/
def encodeFrame (p : Params) : Frame → List Byte
  | .ack => [p.ccAck]
  | .nack => [p.ccNack]
  | .eot => [p.ccEot]
  | .poll a => [p.ccEot, a, p.ccPoll]
  | .select q => [p.ccEot, ccStx] ++ frameBody p q ++ [bcc (frameBody p q)]
  | .respond q => [ccStx] ++ frameBody p q ++ [bcc (frameBody p q)]

/-- `EMPTY(a)` of R150. -/
def emptyPacket (a : Byte) : Packet := { address := a, opcode := 0x00#8, payload := [] }

/-- `fields(f, i)` of R150: the packet read by position, `i` the index of the address byte. -/
def frameFields (f : List Byte) (i : Nat) : Packet where
  address := f.getD i 0x00#8
  opcode  := f.getD (i + 1) 0x00#8
  payload := slice f (i + 2) (f.length - 3)

/-- The EOT arm of R150: EOT, POLL and SELECT frames (R152, R153, R154, R157), whatever brought the bytes together (log
entry 16). -/
def decodeEotArm (p : Params) (f : List Byte) : FrameKind × Packet :=
  let L := f.length
  if L = 1 then (.eot, emptyPacket 0x00#8)
  else if L = 3 ∧ f.getD 2 0x00#8 = p.ccPoll then (.poll, emptyPacket (f.getD 1 0x00#8))
  else if 3 < L ∧ f.getD 1 0x00#8 = ccStx ∧ f.getD (L - 2) 0x00#8 = p.ccEtx then
    if L < 6 ∨ 56 < L then (.none, emptyPacket 0x00#8)
    else if bcc (slice f 2 (L - 2)) = f.getD (L - 1) 0x00#8 then (.select, frameFields f 2)
    else (.error, frameFields f 2)
  else (.none, emptyPacket 0x00#8)

/-- The STX arm of R150: RESPOND frames (R155). A bad block check gives NONE, not ERROR: the asymmetry is kept. -/
def decodeStxArm (p : Params) (f : List Byte) : FrameKind × Packet :=
  let L := f.length
  if 3 < L ∧ f.getD (L - 2) 0x00#8 = p.ccEtx then
    if L < 5 ∨ 55 < L then (.none, emptyPacket 0x00#8)
    else if bcc (slice f 1 (L - 2)) = f.getD (L - 1) 0x00#8 then (.respond, frameFields f 1)
    else (.none, emptyPacket 0x00#8)
  else (.none, emptyPacket 0x00#8)

/-- `decode(f)` of R150. It is total (R159): the empty sequence, which no hand-off produces, gives NONE. -/
def decodeFrame (p : Params) (f : List Byte) : FrameKind × Packet :=
  let first := f.getD 0 0x00#8
  if first = p.ccAck then (if f.length = 1 then .ack else .none, emptyPacket 0x00#8)
  else if first = p.ccNack then (if f.length = 1 then .nack else .none, emptyPacket 0x00#8)
  else if first = p.ccEot then decodeEotArm p f
  else if first = ccStx then decodeStxArm p f
  else (.none, emptyPacket 0x00#8)

/-! ## Instructions from encoded inputs -/

/-- Why an encoded input names no instruction. -/
inductive DecodeError where
  /-- A record of no bytes: no opcode (30_encoding.md R113; log entry 12). -/
  | emptyRecord
  /-- Opcode 0x00 or 0x0C to 0xFF (R116). -/
  | unknownOpcode
  /-- The record's length is not the one its opcode requires (R113, R116). -/
  | wrongLength
  /-- INIT's `r` is above 0x01 (R116). -/
  | badRole
  /-- CREATE_CHANNEL's `f[7:2]` is not zero (R116). -/
  | reservedFlags
  /-- READ_STATUS's selector is above 0x09 (R116). -/
  | badStatusSelector
  /-- READ_CHANNEL's slot is above 0x1F (R116). -/
  | badSlot
  /-- READ_CHANNEL's selector is above 0x03 (R116). -/
  | badChannelSelector
  /-- The bytes on the wire decode to NONE (40_codec.md R150). -/
  | malformedFrame
  /-- The bytes on the wire decode to ERROR (R154). -/
  | badChecksum
deriving DecidableEq, Repr

/-- The role operand of INIT (30_encoding.md R114). -/
def decodeInit : List Byte → Except DecodeError Instr
  | [r, a] =>
    if r = 0x00#8 then .ok (.init .master a)
    else if r = 0x01#8 then .ok (.init .slave a)
    else .error .badRole
  | _ => .error .wrongLength

/-- The operands of CREATE_CHANNEL: `poll_active = f[0]`, `select_active = f[1]` (R115). -/
def decodeCreateChannel : List Byte → Except DecodeError Instr
  | [a, f, oc, ic] =>
    if f.extractLsb' 2 6 = 0#6 then .ok (.createChannel a (f.getLsbD 0) (f.getLsbD 1) oc ic)
    else .error .reservedFlags
  | _ => .error .wrongLength

/-- The operands of SEND: the record's length is `4 + n` where `n` is its byte 3 (R113). -/
def decodeSend : List Byte → Except DecodeError Instr
  | id :: o :: n :: payload =>
    if payload.length = n.toNat then .ok (.send id o payload) else .error .wrongLength
  | _ => .error .wrongLength

/-- A record of no operands. -/
def decodeBare (i : Instr) : List Byte → Except DecodeError Instr
  | [] => .ok i
  | _ => .error .wrongLength

/-- A record of one operand byte. -/
def decodeOne (mk : Byte → Instr) : List Byte → Except DecodeError Instr
  | [x] => .ok (mk x)
  | _ => .error .wrongLength

/-- The selector of READ_STATUS (R116). -/
def decodeReadStatus : List Byte → Except DecodeError Instr
  | [s] => if statusSelectorOk s then .ok (.readStatus s) else .error .badStatusSelector
  | _ => .error .wrongLength

/-- The operands of READ_CHANNEL (R116). -/
def decodeReadChannel : List Byte → Except DecodeError Instr
  | [id, s] =>
    if slotOk id then
      if channelSelectorOk s then .ok (.readChannel id s) else .error .badChannelSelector
    else .error .badSlot
  | _ => .error .wrongLength

/-- A host command record (30_encoding.md R113, R114), total on any bytes; an error is an illegal record (R116). -/
def decodeRecord : List Byte → Except DecodeError Instr
  | [] => .error .emptyRecord
  | op :: rest =>
    match op.toNat with
    | 0x01 => decodeInit rest
    | 0x02 => decodeCreateChannel rest
    | 0x03 => decodeBare .start rest
    | 0x04 => decodeSend rest
    | 0x05 => decodeOne .receive rest
    | 0x06 => decodeOne .isDataAvailable rest
    | 0x07 => decodeOne .channelState rest
    | 0x08 => decodeReadStatus rest
    | 0x09 => decodeReadChannel rest
    | 0x0A => decodeBare .tick rest
    | 0x0B => decodeOne .rxByte rest
    | _ => .error .unknownOpcode

/-- The wire-frame instruction of a byte sequence: the frame that the codec decodes it to (R150). -/
def decodeWire (p : Params) (f : List Byte) : Except DecodeError Instr :=
  match decodeFrame p f with
  | (.ack, _) => .ok .ack
  | (.nack, _) => .ok .nack
  | (.eot, _) => .ok .eot
  | (.poll, q) => .ok (.poll q.address)
  | (.select, q) => .ok (.select q.address q.opcode q.payload)
  | (.respond, q) => .ok (.respond q.address q.opcode q.payload)
  | (.error, _) => .error .badChecksum
  | (.none, _) => .error .malformedFrame

/-- The instruction an encoded input stands for. -/
def decodeStrobe (p : Params) : Strobe → Except DecodeError Instr
  | .record bytes => decodeRecord bytes
  | .frame bytes => decodeWire p bytes

/-! ## The encoder -/

/-- The role code of 10_state.md R70. -/
def Role.code : Role → Byte
  | .master => 0x00#8
  | .slave => 0x01#8

/-- The flags byte of CREATE_CHANNEL (30_encoding.md R114). -/
def flagsByte (pollActive selectActive : Bool) : Byte :=
  0#6 ++ BitVec.ofBool selectActive ++ BitVec.ofBool pollActive

/-- The input that encodes an instruction: its record (R114), or its frame (R101 to R106). -/
def encode (p : Params) : Instr → Strobe
  | .init r a => .record [0x01#8, r.code, a]
  | .createChannel a pa sa oc ic => .record [0x02#8, a, flagsByte pa sa, oc, ic]
  | .start => .record [0x03#8]
  | .send id o payload => .record ([0x04#8, id, o, BitVec.ofNat 8 payload.length] ++ payload)
  | .receive id => .record [0x05#8, id]
  | .isDataAvailable id => .record [0x06#8, id]
  | .channelState id => .record [0x07#8, id]
  | .readStatus s => .record [0x08#8, s]
  | .readChannel id s => .record [0x09#8, id, s]
  | .tick => .record [0x0A#8]
  | .rxByte b => .record [0x0B#8, b]
  | .ack => .frame (encodeFrame p .ack)
  | .nack => .frame (encodeFrame p .nack)
  | .eot => .frame (encodeFrame p .eot)
  | .poll a => .frame (encodeFrame p (.poll a))
  | .select a o payload => .frame (encodeFrame p (.select ⟨a, o, payload⟩))
  | .respond a o payload => .frame (encodeFrame p (.respond ⟨a, o, payload⟩))

/-! ## The words of spec/opcode_table.json -/

/-- The length of the host record that opcode `op` opens when every operand byte is zero (R113, R114): 0 where `op`
is no host opcode. -/
def zeroRecordLength (op : Nat) : Nat :=
  match op with
  | 0x01 => 3
  | 0x02 => 5
  | 0x03 => 1
  | 0x04 => 4
  | 0x05 => 2
  | 0x06 => 2
  | 0x07 => 2
  | 0x08 => 2
  | 0x09 => 3
  | 0x0A => 1
  | 0x0B => 2
  | _ => 0

/-- The `n` bytes of `w`, most significant first: the table writes a word of several bytes with its first byte most
significant (the "format" of its rows POLL and SELECT). -/
def bytesOfWord (n w : Nat) : List Byte :=
  match n with
  | 0 => []
  | k + 1 => BitVec.ofNat 8 (w >>> (8 * k)) :: bytesOfWord k w

/-- `bs` with bytes of zeros after it, up to `n` bytes. -/
def padZeros (n : Nat) (bs : List Byte) : List Byte := bs ++ List.replicate (n - bs.length) 0x00#8

/-- The input a word of the table stands for. A word of one byte that is a host opcode is a host record, its operand
bytes zeros. Any other word is a wire frame, at the table's length where that is a frame, else with zeros up to the
six bytes of the shortest SELECT. The host records and the wire frames are two encodings that share the first bytes
0x02, 0x04 and 0x06: log entry 5. -/
def tableStrobe (nbits w : Nat) : Strobe :=
  if nbits ≤ 8 ∧ zeroRecordLength (w % 256) ≠ 0 then
    .record (padZeros (zeroRecordLength (w % 256)) [BitVec.ofNat 8 w])
  else
    let bs := bytesOfWord ((nbits + 7) / 8) w
    if (decodeFrame Params.vector bs).1 = .none then .frame (padZeros 6 bs) else .frame bs

/-- The instruction the decoder reads from a word of spec/opcode_table.json, whose wire codes are the vector values
(the table's own words: "match shows the vector values"). -/
def decodeTableWord (nbits w : Nat) : Option Instr :=
  match decodeStrobe Params.vector (tableStrobe nbits w) with
  | .ok i => some i
  | .error _ => none

end Sys2Proof
end

