-- ==== Sys2Proof/Machine/State.lean ====
section
/-! DEFINITION. The state of the engine (spec/10_state.md, 20_memory.md) as plain data, the state right after reset
(R76), and the reasons a step could stop. -/

namespace Sys2Proof.Machine

/-- The top states of the protocol machine (R65): INIT = 0, IDLE = 1, POLL = 2, SELECT = 3. -/
inductive TopState where
  | init
  | idle
  | poll
  | select
deriving DecidableEq, Repr

/-- The POLL sub-states (R48), the same names and codes 0 to 3 for both roles. -/
inductive PollSub where
  | sendDelay
  | sendWait
  | replyWait
  | sendAckDelay
deriving DecidableEq, Repr

/-- The one-bit SELECT sub-state register (R49). Its two values carry the name of each role, master first. -/
inductive SelectSub where
  /-- Code 0: SEND_WAIT of the master, RECEIVE_WAIT of the slave. -/
  | sendWaitOrReceiveWait
  /-- Code 1: REPLY_ACK_WAIT of the master, SEND_ACK_DELAY of the slave. -/
  | replyAckWaitOrSendAckDelay
deriving DecidableEq, Repr

/-- The events (R68): NONE = 0, FRAME = 1, LOOPBACK = 2, INIT = 3, JUMP_STATE = 4, TIMEOUT = 5. -/
inductive Event where
  | none
  | frame
  | loopback
  | init
  | jumpState
  | timeout
deriving DecidableEq, Repr

/-- The lifecycle states a slot can store (R59, R69): INIT = 1, OFFLINE = 2, ONLINE = 3. The sentinel NONE = 0 is never
stored, so it has no constructor. -/
inductive ChannelState where
  | init
  | offline
  | online
deriving DecidableEq, Repr

/-- A deadline timer (R40). -/
structure Timer where
  armed    : Bool
  start    : Word
  interval : Word
deriving DecidableEq, Repr

/-- A packet queue with its capacity (R64, 20_memory.md R84): the packets it holds, the head first. -/
structure Queue where
  cap   : Byte
  items : List Packet
deriving DecidableEq, Repr

/-- The fields of an occupied channel slot (R56 to R64). -/
structure Channel where
  address      : Byte
  pollActive   : Bool
  selectActive : Bool
  state        : ChannelState
  notRespond   : Byte
  retry        : Byte
  preSelected  : Bool
  resync       : Timer
  outq         : Queue
  inq          : Queue
deriving DecidableEq, Repr

/-- The actions of the transport output port (46_host.md R340, 30_encoding.md R117). -/
inductive Action where
  | txMode
  | rxMode
  | transmit (bytes : List Byte)
  | rxArm
deriving DecidableEq, Repr

/-- A byte buffer of 256 bytes (20_memory.md R80), as the list of its bytes that differ from 0x00, by rising index.
An index that is not listed reads 0x00 (`Buffer.read` in Machine/Ops.lean; log entry 2). -/
abbrev Buffer := List Host.Cell

/-- The state of the block. The fields down to `channels` are the spec's own, named as 10_state.md names them; an
unoccupied slot is `none`, since its fields hold no value (10_state.md section 7). The last four are the model's:
the parameters the block was built with (log entry 1), the inputs the agents outside have still to deliver, in the one
total order of 20_memory.md R93 (log entry 3), the reply of the last step (30_encoding.md R113; empty where there is
none) and every action emitted so far, oldest first, which is the block's whole output (46_host.md R340). -/
structure State where
  role             : Role
  stationAddress   : Byte
  running          : Bool
  tickCount        : Word
  silence          : Timer
  stateTimer       : Timer
  rxCount          : BitVec 9
  rxBuf            : Buffer
  loopbackPending  : Bool
  rxKind           : FrameKind
  rxPacket         : Packet
  txLen            : BitVec 9
  txBuf            : Buffer
  txPacket         : Packet
  curState         : TopState
  nextState        : TopState
  pollSub          : PollSub
  selectSub        : SelectSub
  pendingEvent     : Event
  curIndex         : Fin nCh
  curValid         : Bool
  msgCount         : Word
  errCount         : Word
  overrunCount     : Word
  channels         : Vector (Option Channel) nCh
  params           : Params
  input            : List Strobe
  reply            : List Byte
  actions          : List Action
deriving DecidableEq, Repr

/-- The reset value of a timer (R39, R40, R76). -/
def Timer.zero : Timer := { armed := false, start := 0#32, interval := 0#32 }

/-- The block right after reset, built with the parameters `p`: R76, field by field. -/
def State.resetWith (p : Params) : State where
  role             := .master
  stationAddress   := 0x00#8
  running          := false
  tickCount        := 0#32
  silence          := Timer.zero
  stateTimer       := Timer.zero
  rxCount          := 0#9
  rxBuf            := []
  loopbackPending  := false
  rxKind           := .none
  rxPacket         := emptyPacket 0x00#8
  txLen            := 0#9
  txBuf            := []
  txPacket         := emptyPacket 0x00#8
  curState         := .init
  nextState        := .init
  pollSub          := .sendDelay
  selectSub        := .sendWaitOrReceiveWait
  pendingEvent     := .none
  curIndex         := 0
  curValid         := false
  msgCount         := 0#32
  errCount         := 0#32
  overrunCount     := 0#32
  channels         := Vector.replicate nCh none
  params           := p
  input            := []
  reply            := []
  actions          := []

/-- The block right after reset (R76, R380), built with its own parameters `Config.params`. -/
def State.reset : State := State.resetWith Config.params

/-- The reasons a step stops with a fault. There are none: the block has no trap, exception or fault mechanism
(60_exceptions.md R364) and nothing it does for a legal input is undefined (R363). The type is empty, which is safe:
no claim can be lost or gained through it. -/
inductive Fault : Type where
deriving DecidableEq, Repr

/-- The reasons a step is refused. -/
inductive Refusal where
  /-- Raised by an arm of `exec` whose instruction has no meaning yet, named by its mnemonic. No arm raises it now.
  Safe: the machine stops where the hardware goes on. -/
  | notModelled (mnemonic : String)
deriving DecidableEq, Repr

end Sys2Proof.Machine
end

