-- ==== Sys2Proof/Machine/Operands.lean ====
section
/-! DEFINITION. The operand forms of the block: the three fields of an address byte and the address validator
(30_encoding.md R110, 41_address.md R170 to R176), the slot operand (30_encoding.md R115, 42_registry.md R182) and the
capacity operand (42_registry.md R180). -/

namespace Sys2Proof.Machine

/-! ## Address bytes -/

/-- Bits [5:4] of an address byte (R110). -/
def deviceType (a : Byte) : BitVec 2 := a.extractLsb' 4 2

/-- Bit [3] of an address byte, the mirror or reply bit (R110). -/
def mirrorBit (a : Byte) : Bool := a.getLsbD 3

/-- Bits [2:0] of an address byte (R110). -/
def physicalAddress (a : Byte) : BitVec 3 := a.extractLsb' 0 3

/-- The three results of the validator (R170). They are computed and used inside one handler, never stored (R71). -/
structure Validation where
  deviceTypeMatch      : Bool
  physicalAddressMatch : Bool
  isReply              : Bool
deriving DecidableEq, Repr

/-- `validate(own, peer)` of R170 to R174; bits [7:6] take part in no comparison. -/
def validate (own peer : Byte) : Validation where
  deviceTypeMatch      := deviceType own == deviceType peer
  physicalAddressMatch := physicalAddress own == physicalAddress peer
  isReply              := mirrorBit own == mirrorBit peer

/-- `addr_ok(own, peer)` of R175. -/
def addrOk (own peer : Byte) : Bool :=
  (validate own peer).deviceTypeMatch && (validate own peer).physicalAddressMatch

/-- `is_reply(own, peer)` of R173. -/
def isReply (own peer : Byte) : Bool := (validate own peer).isReply

/-! ## Slot operands -/

/-- The slot an `id` operand names; 0x20 and above name none (30_encoding.md R115). -/
def slotOf (id : Byte) : Option (Fin nCh) :=
  if h : id.toNat < nCh then some ⟨id.toNat, h⟩ else none

/-- The channel in slot `i`, `none` where the slot is unoccupied. -/
def State.channel (s : State) (i : Fin nCh) : Option Channel := s.channels[i.val]'i.isLt

/-- The slot and the channel an `id` operand denotes, `none` where `exists(id)` is 0 (42_registry.md R182). -/
def State.channelOf (s : State) (id : Byte) : Option (Fin nCh × Channel) :=
  match slotOf id with
  | none => none
  | some i =>
    match s.channel i with
    | none => none
    | some c => some (i, c)

/-! ## Capacity operands -/

/-- `legal(c)` of 42_registry.md R180: a power of two from 1 to `QUEUE_CAP_MAX`. -/
def legalCapacity (p : Params) (c : Byte) : Bool :=
  powersOfTwo.contains c && decide (c ≤ p.queueCapMax)

end Sys2Proof.Machine
end

