-- ==== Sys2Proof/Machine/Ops.lean ====
section
/-! DEFINITION. The operations every meaning is built from: arithmetic (00_scope.md R11), timers (42_registry.md R190
to R192), the byte buffers and the packet queues (20_memory.md), the primitives `emit`, `post`, `load_tx` and
`send_frame` (00_scope.md R12, 43_engine.md R223, R224), the channel registry (42_registry.md R180 to R185) and the
byte input (43_engine.md R221).

There is no operation that takes an exception and none that returns from one: the block has no trap mechanism, saves
no state and has no handler address (60_exceptions.md R364). What a manual of a processor calls an exception is here a
protocol error, handled by the rules of the state machine (R360). -/

namespace Sys2Proof.Machine

/-! ## Arithmetic -/

/-- `inc32` of 00_scope.md R11: it wraps. -/
def inc32 (c : Word) : Word := c + 1#32

/-- `sat_inc8` of R11: it stops at 255. -/
def satInc8 (c : Byte) : Byte := if c = 0xFF#8 then 0xFF#8 else c + 1#8

/-- The four bytes of a status word, least significant first (20_memory.md R90). -/
def wordBytes (w : Word) : List Byte :=
  [w.extractLsb' 0 8, w.extractLsb' 8 8, w.extractLsb' 16 8, w.extractLsb' 24 8]

/-! ## Timers -/

/-- The timer that `arm(T, I)` leaves when the tick counter is `now` (R190). -/
def armTimer (now interval : Word) : Timer := { armed := true, start := now, interval := interval }

/-- `disarm(T)`: the start and the interval stay (R191). -/
def Timer.disarm (t : Timer) : Timer := { t with armed := false }

/-- `expired(T)` when the tick counter is `now`: the difference wraps (R192). -/
def Timer.expired (t : Timer) (now : Word) : Bool := t.armed && decide (t.interval ≤ now - t.start)

/-- Arm the state timer (R190). -/
def State.armStateTimer (s : State) (interval : Word) : State :=
  { s with stateTimer := armTimer s.tickCount interval }

/-- Disarm the state timer (R191). -/
def State.disarmStateTimer (s : State) : State := { s with stateTimer := s.stateTimer.disarm }

/-! ## Byte buffers -/

/-- What a buffer index that nothing has written reads as (log entry 2). -/
def unwrittenByte : Byte := 0x00#8

/-- The byte at an index of a buffer. -/
def Buffer.read : Buffer → Nat → Byte
  | [], _ => unwrittenByte
  | (i, v) :: rest, a => if a = i then v else Buffer.read rest a

/-- `cell` in front of `rest`, unless it reads as an unlisted index does. -/
def consCell (cell : Host.Cell) (rest : Buffer) : Buffer :=
  if cell.2 = unwrittenByte then rest else cell :: rest

/-- `b` with the byte at index `a` set, in the canonical form. -/
def Buffer.put : Buffer → Nat → Byte → Buffer
  | [], a, v => consCell (a, v) []
  | (i, w) :: rest, a, v =>
    if a < i then consCell (a, v) ((i, w) :: rest)
    else if a = i then consCell (a, v) rest
    else (i, w) :: Buffer.put rest a v

/-- Write one byte. A buffer has the indices 0 to 255 only (20_memory.md R80); no rule writes outside them. -/
def Buffer.write (b : Buffer) (a : Nat) (v : Byte) : Buffer := if a < maxFrame then b.put a v else b

/-- Write a byte sequence from index `a` on. -/
def Buffer.writeFrom (b : Buffer) (a : Nat) : List Byte → Buffer
  | [] => b
  | v :: vs => (b.write a v).writeFrom (a + 1) vs

/-- The bytes at indices 0 to `n - 1`. -/
def Buffer.front (b : Buffer) (n : Nat) : List Byte := (List.range n).map b.read

/-- The first listed index is above `lo`, and the indices rise from there. -/
def Buffer.risingFrom : Nat → Buffer → Bool
  | _, [] => true
  | lo, (i, _) :: rest => decide (lo ≤ i) && Buffer.risingFrom (i + 1) rest

/-- The canonical form: indices strictly rising and below 256, no listed byte equal to what an unlisted index reads. -/
def Buffer.wf (b : Buffer) : Bool :=
  Buffer.risingFrom 0 b && b.all (fun cell => decide (cell.1 < maxFrame) && decide (cell.2 ≠ unwrittenByte))

/-! ## Packet queues -/

/-- A queue of capacity `cap` that holds no packet (42_registry.md R180). -/
def Queue.empty (cap : Byte) : Queue := { cap := cap, items := [] }

/-- `Q.is_empty()` (20_memory.md R87). -/
def Queue.isEmpty (q : Queue) : Bool := q.items.isEmpty

/-- `Q.is_full()`: exactly when it holds `cap` packets (R87). -/
def Queue.isFull (q : Queue) : Bool := q.items.length == q.cap.toNat

/-- `Q.put(p)`, `none` for `full` (R85). -/
def Queue.put (q : Queue) (p : Packet) : Option Queue :=
  if q.isFull then none else some { q with items := q.items ++ [p] }

/-- `Q.get()`, `none` for `empty` (R86). -/
def Queue.get (q : Queue) : Option (Packet × Queue) :=
  match q.items with
  | [] => none
  | p :: rest => some (p, { q with items := rest })

/-! ## Output, events and transmission -/

/-- `emit(A)` (00_scope.md R12): the action joins the trace (46_host.md R340). -/
def State.emit (s : State) (a : Action) : State := { s with actions := s.actions ++ [a] }

/-- The reply of the step (30_encoding.md R113). -/
def State.withReply (s : State) (r : List Byte) : State := { s with reply := r }

/-- `post(E, S)` (43_engine.md R224): a later post overwrites an earlier one. -/
def State.post (s : State) (e : Event) (target : TopState) : State :=
  { s with pendingEvent := e, nextState := target }

/-- `load_tx(kind, q)` (40_codec.md section 2): encode into the transmit buffer, its length into `tx_len`. -/
def State.loadTx (s : State) (f : Frame) : State :=
  { s with
    txBuf := s.txBuf.writeFrom 0 (encodeFrame s.params f)
    txLen := BitVec.ofNat 9 (encodeFrame s.params f).length }

/-- `TxBuf[0 .. tx_len - 1]` (20_memory.md R82). -/
def State.txFrame (s : State) : List Byte := s.txBuf.front s.txLen.toNat

/-- `RxBuf[0 .. rx_count - 1]` (20_memory.md R81). -/
def State.rxFrame (s : State) : List Byte := s.rxBuf.front s.rxCount.toNat

/-- `send_frame()` (43_engine.md R223): two actions, then the echo is awaited. -/
def State.sendFrame (s : State) : State :=
  { s with
    actions := s.actions ++ [.txMode, .transmit s.txFrame]
    loopbackPending := true }

/-! ## The channel registry -/

/-- Slot `i` holds the channel `c` from now on. -/
def State.setChannel (s : State) (i : Fin nCh) (c : Channel) : State :=
  { s with channels := s.channels.set i.val (some c) i.isLt }

/-- What a rule does that reads slot `i`. A rule applies only where the slot exists (42_registry.md R182: "every
state-machine rule reads only slots for which it holds"); where it does not, the event is ignored as one that no rule
names (00_scope.md R13). Log entry 6. -/
def State.onChannel (s : State) (i : Fin nCh) (f : Channel → State) : State :=
  match s.channel i with
  | none => s
  | some c => f c

/-- The lowest unoccupied slot. -/
def State.freeSlot (s : State) : Option (Fin nCh) := (List.finRange nCh).find? (fun i => (s.channel i).isNone)

/-- The channel that `create` puts into a slot (R180). -/
def newChannel (address : Byte) (pollActive selectActive : Bool) (outCap inCap : Byte) : Channel where
  address      := address
  pollActive   := pollActive
  selectActive := selectActive
  state        := .init
  notRespond   := 0x00#8
  retry        := 0x00#8
  preSelected  := false
  resync       := Timer.zero
  outq         := Queue.empty outCap
  inq          := Queue.empty inCap

/-- `create(address, poll_active, select_active, out_cap, in_cap)` of R180: the slot allocated and the state with it,
or `none` for `full`. -/
def State.create (s : State) (address : Byte) (pollActive selectActive : Bool) (outCap inCap : Byte) :
    Option (Fin nCh × State) :=
  if legalCapacity s.params outCap && legalCapacity s.params inCap then
    match s.freeSlot with
    | none => none
    | some i => some (i, s.setChannel i (newChannel address pollActive selectActive outCap inCap))
  else none

/-- `advance_round_robin(cur_valid, cur_index)` of R183: from "none" the scan starts at slot 0, else after the current
slot; `Fin` addition wraps from 31 to 0. -/
def State.advanceRoundRobin (s : State) : Option (Fin nCh) :=
  let start : Fin nCh := if s.curValid then s.curIndex + 1 else 0
  ((List.finRange nCh).map (fun k => start + k)).find? (fun j => (s.channel j).isSome)

/-- `poller(i)` of R184, for the channel `c` in slot `i`. -/
def State.poller (s : State) (c : Channel) : Bool := s.role == .master && c.pollActive

/-- The re-sync deadline that the lifecycle transition to `new` leaves (R185). -/
def State.transitionTimer (s : State) (c : Channel) (new : ChannelState) : Timer :=
  match new with
  | .offline => armTimer s.tickCount s.params.tResyncOffline
  | .online => if s.poller c then c.resync.disarm else armTimer s.tickCount s.params.tResyncOnline
  | .init => c.resync

/-- `transition(i, new)` of R185 on the channel `c` of slot `i`; no rule calls it with INIT. -/
def State.transition (s : State) (c : Channel) (new : ChannelState) : Channel :=
  if c.state = new then c else { c with state := new, resync := s.transitionTimer c new }

/-! ## The byte input -/

/-- The receive buffer and count after one more byte: a byte beyond the 256th is discarded (R221). -/
def State.storeByte (s : State) (b : Byte) : State :=
  if s.rxCount.toNat < maxFrame then
    { s with rxBuf := s.rxBuf.write s.rxCount.toNat b, rxCount := s.rxCount + 1#9 }
  else s

/-- `RX_BYTE(b)` of R221. -/
def State.receiveByte (s : State) (b : Byte) : State :=
  { s.storeByte b with
    silence := armTimer s.tickCount s.params.tSilence
    actions := s.actions ++ [.rxArm] }

/-- The bytes of one frame delivered in order with no tick between them: R118's `RXF`. -/
def State.receiveBytes (s : State) : List Byte → State
  | [] => s
  | b :: bs => (s.receiveByte b).receiveBytes bs

end Sys2Proof.Machine
end

