-- ==== Sys2Proof/Machine/Flags.lean ====
section
/-! DEFINITION. The block has no condition-code register (10_state.md R71): its flags are single-bit fields of State,
read and written by the rules that name them. What computes on them is the status word, so this file gives the codes of
the enumerations (R65 to R70) and every word of READ_STATUS (R73) and READ_CHANNEL (R74, R75), bit by bit. -/

namespace Sys2Proof.Machine

/-! ## Enumeration codes -/

/-- R65. -/
def TopState.code : TopState → BitVec 2
  | .init => 0#2
  | .idle => 1#2
  | .poll => 2#2
  | .select => 3#2

/-- R66. -/
def kindCode : FrameKind → BitVec 3
  | .none => 0#3
  | .ack => 1#3
  | .nack => 2#3
  | .eot => 3#3
  | .poll => 4#3
  | .select => 5#3
  | .respond => 6#3
  | .error => 7#3

/-- R48, R67. -/
def PollSub.code : PollSub → BitVec 2
  | .sendDelay => 0#2
  | .sendWait => 1#2
  | .replyWait => 2#2
  | .sendAckDelay => 3#2

/-- R49, R67. -/
def SelectSub.code : SelectSub → BitVec 1
  | .sendWaitOrReceiveWait => 0#1
  | .replyAckWaitOrSendAckDelay => 1#1

/-- R68. -/
def Event.code : Event → BitVec 3
  | .none => 0#3
  | .frame => 1#3
  | .loopback => 2#3
  | .init => 3#3
  | .jumpState => 4#3
  | .timeout => 5#3

/-- R69, for the states a slot stores. -/
def ChannelState.code : ChannelState → BitVec 2
  | .init => 1#2
  | .offline => 2#2
  | .online => 3#2

/-- R69's NONE, the answer for a slot that does not exist. -/
def channelStateNone : Byte := 0x00#8

/-- R70. -/
def roleCode : Role → BitVec 1
  | .master => 0#1
  | .slave => 1#1

/-! ## READ_STATUS -/

/-- Word 0x00, CONFIG: [7:0] station_address, [8] role, [9] running. -/
def State.configWord (s : State) : Word :=
  0#22 ++ BitVec.ofBool s.running ++ roleCode s.role ++ s.stationAddress

/-- Word 0x05, SM: [1:0] cur_state, [3:2] next_state, [6:4] pending_event, [7] loopback_pending, [9:8] poll_sub,
[10] select_sub, [15:11] cur_index, [16] cur_valid, [17] state_timer.armed, [18] silence.armed, [21:19] rx_kind. -/
def State.smWord (s : State) : Word :=
  0#10 ++ kindCode s.rxKind ++ BitVec.ofBool s.silence.armed ++ BitVec.ofBool s.stateTimer.armed ++
    BitVec.ofBool s.curValid ++ BitVec.ofNat 5 s.curIndex.val ++ s.selectSub.code ++ s.pollSub.code ++
    BitVec.ofBool s.loopbackPending ++ s.pendingEvent.code ++ s.nextState.code ++ s.curState.code

/-- Word 0x06, RX: [8:0] rx_count, [17:9] tx_len. -/
def State.rxWord (s : State) : Word := 0#14 ++ s.txLen ++ s.rxCount

/-- The status word of a selector (R73), `none` above 0x09, where the record is illegal. -/
def State.statusWord (s : State) (selector : Byte) : Option Word :=
  match selector.toNat with
  | 0x00 => some s.configWord
  | 0x01 => some s.tickCount
  | 0x02 => some s.msgCount
  | 0x03 => some s.errCount
  | 0x04 => some s.overrunCount
  | 0x05 => some s.smWord
  | 0x06 => some s.rxWord
  | 0x07 => some s.stateTimer.start
  | 0x08 => some s.stateTimer.interval
  | 0x09 => some s.silence.start
  | _ => none

/-! ## READ_CHANNEL -/

/-- Word 0x00, CH_STATUS: [0] occupied, [2:1] state, [3] poll_active, [4] select_active, [5] pre_selected,
[6] resync.armed, [7] 0, [15:8] address, [23:16] not_respond, [31:24] retry. -/
def Channel.chStatusWord (c : Channel) : Word :=
  c.retry ++ c.notRespond ++ c.address ++ 0#1 ++ BitVec.ofBool c.resync.armed ++ BitVec.ofBool c.preSelected ++
    BitVec.ofBool c.selectActive ++ BitVec.ofBool c.pollActive ++ c.state.code ++ 1#1

/-- Word 0x01, CH_QUEUES: [7:0] packets in outq, [15:8] out_cap, [23:16] packets in inq, [31:24] in_cap. -/
def Channel.chQueuesWord (c : Channel) : Word :=
  c.inq.cap ++ BitVec.ofNat 8 c.inq.items.length ++ c.outq.cap ++ BitVec.ofNat 8 c.outq.items.length

/-- The word of a selector for an occupied slot (R74), `none` above 0x03. -/
def Channel.channelWord (c : Channel) (selector : Byte) : Option Word :=
  match selector.toNat with
  | 0x00 => some c.chStatusWord
  | 0x01 => some c.chQueuesWord
  | 0x02 => some c.resync.start
  | 0x03 => some c.resync.interval
  | _ => none

/-- The word of READ_CHANNEL (R74): every word of an unoccupied slot is 0; `none` where the record is illegal
(30_encoding.md R116: slot above 0x1F, or selector above 0x03). -/
def State.readChannelWord (s : State) (id selector : Byte) : Option Word :=
  match slotOf id with
  | none => none
  | some i =>
    match s.channel i with
    | some c => c.channelWord selector
    | none => if channelSelectorOk selector then some 0#32 else none

end Sys2Proof.Machine
end

