-- ==== Sys2Proof/Machine/Master.lean ====
section
/-! DEFINITION. The master role (spec/44_master.md R240 to R264): the round-robin scheduler of IDLE, the POLL and SELECT
entry hooks and their handlers. `i` of the rules is `s.curIndex`, `p` is `s.rxPacket`. An event that no rule names
leaves the state as it is (00_scope.md R13). -/

namespace Sys2Proof.Machine

/-! ## IDLE -/

/-- The condition of R242 under which an ONLINE channel is selected. -/
def Channel.selectDue (c : Channel) : Bool :=
  !c.outq.isEmpty && c.selectActive && (!c.preSelected || !c.pollActive)

/-- R243: an ONLINE channel that is not selected. -/
def State.visitOnlinePoll (s : State) (i : Fin nCh) (c : Channel) : State :=
  if c.pollActive then (s.setChannel i { c with preSelected := false }).post .jumpState .poll
  else if c.resync.expired s.tickCount then
    (s.setChannel i { c with preSelected := false, resync := armTimer s.tickCount s.params.tResyncOnline }).post
      .jumpState .poll
  else (s.setChannel i { c with preSelected := false }).post .jumpState .idle

/-- R244: an OFFLINE channel. -/
def State.visitOffline (s : State) (i : Fin nCh) (c : Channel) : State :=
  if c.resync.expired s.tickCount then
    (s.setChannel i { c with resync := armTimer s.tickCount s.params.tResyncOffline }).post .jumpState .poll
  else s.post .jumpState .idle

/-- The branch the scheduler takes for the channel `c` in slot `i` (R240 to R244). -/
def State.visit (s : State) (i : Fin nCh) (c : Channel) : State :=
  match c.state with
  | .init => s.post .jumpState .poll
  | .online =>
    if c.selectDue then (s.setChannel i { c with preSelected := true }).post .jumpState .select
    else s.visitOnlinePoll i c
  | .offline => s.visitOffline i c

/-- R240: one run of the scheduler visits one channel. -/
def State.schedule (s : State) : State :=
  match s.advanceRoundRobin with
  | none => s.post .jumpState .idle
  | some r => State.onChannel { s with curIndex := r, curValid := true } r
      (State.visit { s with curIndex := r, curValid := true } r)

/-- The master's IDLE handler (R240, R245). -/
def masterIdle (s : State) (ev : Event) : State :=
  match ev with
  | .jumpState => s.schedule
  | _ => s

/-! ## POLL -/

/-- The POLL entry hook (R246). -/
def masterPollEntry (s : State) : State :=
  s.onChannel s.curIndex fun c =>
    State.armStateTimer ({ s with pollSub := .sendDelay }.loadTx (.poll c.address)) s.params.tSendDelay

/-- R247: the guard delay is over, the POLL goes out. -/
def masterPollSend (s : State) : State :=
  { s.sendFrame.armStateTimer s.params.tLoopback with pollSub := .sendWait }

/-- R248: the echo of the POLL is complete. -/
def masterPollEcho (s : State) : State :=
  { s.armStateTimer s.params.tReply with pollSub := .replyWait }

/-- The channel after one more unanswered poll (R254; the threshold as 90_conflicts.md C2 reads it). -/
def State.unansweredChannel (s : State) (c : Channel) : Channel :=
  if notRespondMax ≤ satInc8 c.notRespond then s.transition { c with notRespond := satInc8 c.notRespond } .offline
  else { c with notRespond := satInc8 c.notRespond }

/-- R254, and R249 by reference: the poll was not answered, or its echo never completed. -/
def masterPollUnanswered (s : State) : State :=
  s.onChannel s.curIndex fun c => (s.setChannel s.curIndex (s.unansweredChannel c)).post .jumpState .idle

/-- The channel after an answer (R250, R251): ONLINE, its not-respond count 0. -/
def State.answeredChannel (s : State) (c : Channel) : Channel :=
  { s.transition c .online with notRespond := 0x00#8 }

/-- R250: an EOT answers the poll. -/
def masterPollEot (s : State) : State :=
  s.onChannel s.curIndex fun c => (s.setChannel s.curIndex (s.answeredChannel c)).post .jumpState .idle

/-- The ACK or NACK is prepared, to go out after the delay (R251, R253), `T_ACK_DELAY` ticks from now, as R393 has it and
70_reset_and_hazards.md R386 and R387 do not (log entry 15). -/
def State.prepareReply (s : State) (f : Frame) : State := (s.loadTx f).armStateTimer s.params.tAckDelay

/-- R251 and R252: a RESPOND of the polled station. A full inbound queue drops the packet, counts an overrun, and the
ACK is sent all the same. -/
def masterPollRespond (s : State) : State :=
  s.onChannel s.curIndex fun c =>
    if addrOk c.address s.rxPacket.address then
      match c.inq.put s.rxPacket with
      | some q =>
        { State.prepareReply (s.setChannel s.curIndex { s.answeredChannel c with inq := q }) .ack with
          pollSub := .sendAckDelay }
      | none =>
        { State.prepareReply (s.setChannel s.curIndex (s.answeredChannel c)) .ack with
          pollSub := .sendAckDelay, overrunCount := inc32 s.overrunCount }
    else s

/-- R253: a frame with a bad block check is answered with NACK, whatever its address. -/
def masterPollError (s : State) : State :=
  { s.prepareReply .nack with pollSub := .sendAckDelay }

/-- A FRAME event in POLL REPLY_WAIT (R250 to R253, R256). -/
def masterPollFrame (s : State) : State :=
  match s.rxKind with
  | .eot => masterPollEot s
  | .respond => masterPollRespond s
  | .error => masterPollError s
  | _ => s

/-- R255: the ACK or NACK goes out, and the master waits for the slave again. -/
def masterPollReply (s : State) : State :=
  { s.sendFrame.armStateTimer s.params.tReply with pollSub := .replyWait }

/-- The master's POLL handler (R247 to R256). -/
def masterPoll (s : State) (ev : Event) : State :=
  match s.pollSub, ev with
  | .sendDelay, .timeout => masterPollSend s
  | .sendWait, .loopback => masterPollEcho s
  | .sendWait, .timeout => masterPollUnanswered s
  | .replyWait, .frame => masterPollFrame s
  | .replyWait, .timeout => masterPollUnanswered s
  | .sendAckDelay, .timeout => masterPollReply s
  | _, _ => s

/-! ## SELECT -/

/-- The SELECT entry hook (R258), with the corner case its last words give for an empty queue. It sends
even while an echo is awaited, where 46_host.md R342 contradicts it (log entry 7). -/
def masterSelectEntry (s : State) : State :=
  s.onChannel s.curIndex fun c =>
    match c.outq.get with
    | none => s.post .jumpState .idle
    | some (q, rest) =>
      { State.armStateTimer
          (State.sendFrame
            (State.loadTx { s.setChannel s.curIndex { c with outq := rest, retry := 0x00#8 } with txPacket := q }
              (.select q)))
          s.params.tLoopback with
        selectSub := .sendWaitOrReceiveWait }

/-- R259: the echo of the SELECT is complete. -/
def masterSelectEcho (s : State) : State :=
  { s.armStateTimer s.params.tReply with selectSub := .replyAckWaitOrSendAckDelay }

/-- R261 and R264: the exchange ends on TIMEOUT; the packet is lost and an overrun is counted. -/
def masterSelectOverrun (s : State) : State :=
  State.post { s with overrunCount := inc32 s.overrunCount } .jumpState .idle

/-- R260: the ACK ends the exchange. -/
def masterSelectAck (s : State) : State := s.post .jumpState .idle

/-- R262: a NACK is counted; the frame still in the transmit buffer is sent again while the retry count is below the
limit (90_conflicts.md C5), at once (log entry 15 for R386 and R387), else the exchange is given up. -/
def masterSelectNack (s : State) : State :=
  s.onChannel s.curIndex fun c =>
    if c.retry < maxRetry then
      { State.armStateTimer
          (State.sendFrame
            { s.setChannel s.curIndex { c with retry := c.retry + 1#8 } with errCount := inc32 s.errCount })
          s.params.tLoopback with
        selectSub := .sendWaitOrReceiveWait }
    else State.post { s with errCount := inc32 s.errCount } .jumpState .idle

/-- A FRAME event in SELECT REPLY_ACK_WAIT (R260, R262, R263). -/
def masterSelectFrame (s : State) : State :=
  match s.rxKind with
  | .ack => masterSelectAck s
  | .nack => masterSelectNack s
  | _ => s

/-- The master's SELECT handler (R259 to R264). -/
def masterSelect (s : State) (ev : Event) : State :=
  match s.selectSub, ev with
  | .sendWaitOrReceiveWait, .loopback => masterSelectEcho s
  | .sendWaitOrReceiveWait, .timeout => masterSelectOverrun s
  | .replyAckWaitOrSendAckDelay, .frame => masterSelectFrame s
  | .replyAckWaitOrSendAckDelay, .timeout => masterSelectOverrun s
  | _, _ => s

end Sys2Proof.Machine
end

