-- ==== Sys2Proof/Machine/Slave.lean ====
section
/-! DEFINITION. The slave role (spec/45_slave.md R280 to R303). The slave has one implicit channel, slot 0 (R281); `own`
of the rules is `s.stationAddress`, `p` is `s.rxPacket`. An event that no rule names leaves the state as it is
(00_scope.md R13). -/

namespace Sys2Proof.Machine

/-! ## IDLE -/

/-- R280: wait for slot 0, then arm its re-sync deadline and go to SELECT. -/
def slaveIdleJump (s : State) : State :=
  match s.channel 0 with
  | none => s.post .jumpState .idle
  | some c =>
    State.post
      { s.setChannel 0 { c with resync := armTimer s.tickCount s.params.tResyncOnline } with
        curIndex := 0, curValid := true }
      .jumpState .select

/-- The slave's IDLE handler (R280). -/
def slaveIdle (s : State) (ev : Event) : State :=
  match ev with
  | .jumpState => slaveIdleJump s
  | _ => s

/-! ## SELECT -/

/-- The MIRROR step of R282: the state timer takes over the re-sync deadline of slot 0, unless the channel is OFFLINE. -/
def State.mirror (s : State) : State :=
  s.onChannel 0 fun c =>
    if c.state ≠ .offline ∧ c.resync.armed = true then { s with stateTimer := c.resync } else s.disarmStateTimer

/-- The SELECT entry hook (R282). -/
def slaveSelectEntry (s : State) : State := State.mirror { s with selectSub := .sendWaitOrReceiveWait }

/-- The frame is for this station and a response is owed: the test of R283, R286 and R288. -/
def State.mustAnswer (s : State) : Bool :=
  addrOk s.stationAddress s.rxPacket.address && isReply s.stationAddress s.rxPacket.address

/-- R283: a poll of this station. R284: any other poll is observed only. -/
def slaveSelectPoll (s : State) : State :=
  if s.mustAnswer then
    s.onChannel 0 fun c =>
      State.post
        (s.setChannel 0
          { s.transition c .online with resync := armTimer s.tickCount s.params.tResyncOnline })
        .jumpState .poll
  else s

/-- R286: the ACK is prepared where a response is owed. -/
def slaveSelectAnswer (s : State) : State :=
  if isReply s.stationAddress s.rxPacket.address then
    { s.prepareReply .ack with selectSub := .replyAckWaitOrSendAckDelay }
  else s

/-- R285 to R287: a SELECT for this station is queued, or dropped and counted where the queue is full. -/
def slaveSelectData (s : State) : State :=
  if addrOk s.stationAddress s.rxPacket.address then
    s.onChannel 0 fun c =>
      match c.inq.put s.rxPacket with
      | some q => slaveSelectAnswer (s.setChannel 0 { c with inq := q })
      | none => slaveSelectAnswer { s with overrunCount := inc32 s.overrunCount }
  else s

/-- R288: a frame with a bad block check for this station is answered with NACK. -/
def slaveSelectError (s : State) : State :=
  if s.mustAnswer then { s.prepareReply .nack with selectSub := .replyAckWaitOrSendAckDelay } else s

/-- A FRAME event in SELECT RECEIVE_WAIT (R283 to R288, R291). -/
def slaveSelectFrame (s : State) : State :=
  match s.rxKind with
  | .poll => slaveSelectPoll s
  | .select => slaveSelectData s
  | .error => slaveSelectError s
  | _ => s

/-- R289: the mirrored deadline elapsed, the channel goes OFFLINE. -/
def slaveSelectDeadline (s : State) : State :=
  s.onChannel 0 fun c => s.setChannel 0 (s.transition c .offline)

/-- R290: the ACK or NACK goes out, and the slave waits for the master again. -/
def slaveSelectReply (s : State) : State :=
  State.mirror { s.sendFrame with selectSub := .sendWaitOrReceiveWait }

/-- The slave's SELECT handler (R283 to R291). -/
def slaveSelect (s : State) (ev : Event) : State :=
  match s.selectSub, ev with
  | .sendWaitOrReceiveWait, .frame => slaveSelectFrame s
  | .sendWaitOrReceiveWait, .timeout => slaveSelectDeadline s
  | .replyAckWaitOrSendAckDelay, .timeout => slaveSelectReply s
  | _, _ => s

/-! ## POLL -/

/-- The data case of the POLL entry hook (R292): the packet `q` leaves the queue and its RESPOND is built. -/
def slavePollData (s : State) (c : Channel) (q : Packet) (rest : Queue) : State :=
  { State.armStateTimer
      (State.loadTx { s.setChannel 0 { c with outq := rest, retry := 0x00#8 } with txPacket := q } (.respond q))
      s.params.tSendDelay with
    pollSub := .sendDelay }

/-- The no-data case (R293): an EOT is built. -/
def slavePollNoData (s : State) : State :=
  { (s.loadTx .eot).armStateTimer s.params.tSendDelay with pollSub := .sendDelay }

/-- The POLL entry hook (R292, R293). -/
def slavePollEntry (s : State) : State :=
  s.onChannel 0 fun c =>
    if c.pollActive then
      match c.outq.get with
      | some (q, rest) => slavePollData s c q rest
      | none => slavePollNoData s
    else slavePollNoData s

/-- R294 and R301: the prepared frame goes out. -/
def slavePollSend (s : State) : State :=
  { s.sendFrame.armStateTimer s.params.tLoopback with pollSub := .sendWait }

/-- R295 and R296: the echo is complete; a frame of one byte was the closing EOT. A frame of no bytes,
which no run prepares, is ignored (log entry 14). -/
def slavePollEcho (s : State) : State :=
  if s.txLen = 1#9 then s.post .jumpState .select
  else if 1#9 < s.txLen then { s.armStateTimer s.params.tReply with pollSub := .replyWait }
  else s

/-- R297: the RESPOND was acknowledged; the closing EOT is prepared. -/
def slavePollAck (s : State) : State :=
  s.onChannel 0 fun c =>
    { State.prepareReply (s.setChannel 0 { c with notRespond := 0x00#8 }) .eot with pollSub := .sendAckDelay }

/-- R298: the RESPOND was refused; it is sent again while the retry count is below the limit, else given up. -/
def slavePollNack (s : State) : State :=
  s.onChannel 0 fun c =>
    if c.retry < maxRetry then
      { State.armStateTimer (s.setChannel 0 { c with notRespond := 0x00#8, retry := c.retry + 1#8 })
          s.params.tSendDelay with
        pollSub := .sendDelay, errCount := inc32 s.errCount }
    else
      { State.prepareReply (s.setChannel 0 { c with notRespond := 0x00#8 }) .eot with
        pollSub := .sendAckDelay, errCount := inc32 s.errCount }

/-- R299 and R302: back to SELECT. -/
def slavePollAbort (s : State) : State := s.post .jumpState .select

/-- R300: the RESPOND was not answered. -/
def slavePollTimeout (s : State) : State :=
  s.onChannel 0 fun c =>
    (s.setChannel 0 { c with notRespond := satInc8 c.notRespond }).post .jumpState .select

/-- A FRAME event in POLL REPLY_WAIT (R297 to R299, R303). -/
def slavePollFrame (s : State) : State :=
  match s.rxKind with
  | .ack => slavePollAck s
  | .nack => slavePollNack s
  | .poll => slavePollAbort s
  | .select => slavePollAbort s
  | .respond => slavePollAbort s
  | _ => s

/-- The slave's POLL handler (R294 to R303). -/
def slavePoll (s : State) (ev : Event) : State :=
  match s.pollSub, ev with
  | .sendDelay, .timeout => slavePollSend s
  | .sendWait, .loopback => slavePollEcho s
  | .sendWait, .timeout => slavePollAbort s
  | .replyWait, .frame => slavePollFrame s
  | .replyWait, .timeout => slavePollTimeout s
  | .sendAckDelay, .timeout => slavePollSend s
  | _, _ => s

end Sys2Proof.Machine
end

