-- ==== Sys2Proof/Machine/Engine.lean ====
section
/-! DEFINITION. The two input strobes (spec/43_engine.md): the tick (R210 to R220, R222, R225, R226) and the byte input
(R221), as the meanings of TICK (46_host.md R332) and RX_BYTE (R333). -/

namespace Sys2Proof.Machine

/-! ## Event derivation -/

/-- R214: a completed frame that is not the echo is decoded; NONE changes nothing and gives no event. -/
def State.decodeStep (s : State) (f : List Byte) : State × Event :=
  if (decodeFrame s.params f).1 = .none then (s, .none)
  else
    ({ s with
        rxKind := (decodeFrame s.params f).1
        rxPacket := (decodeFrame s.params f).2
        msgCount := inc32 s.msgCount
        errCount := if (decodeFrame s.params f).1 = .error then inc32 s.errCount else s.errCount },
      .frame)

/-- What clears an awaited echo, at its completion (R213) or at a TIMEOUT (R216). -/
def State.releaseLine (s : State) : State := State.emit { s with loopbackPending := false } .rxMode

/-- The atomic hand-off of R212: the framer is empty again. -/
def State.clearFramer (s : State) : State := { s with rxCount := 0#9, silence := s.silence.disarm }

/-- R212 to R214: a frame is complete. -/
def State.handOff (s : State) : State × Event :=
  if s.loopbackPending then (s.clearFramer.releaseLine, .loopback) else s.clearFramer.decodeStep s.rxFrame

/-- R215: the pending event is consumed. -/
def State.takePending (s : State) : State × Event := ({ s with pendingEvent := .none }, s.pendingEvent)

/-- R216: the state timer expired. -/
def State.timeOut (s : State) : State × Event :=
  if s.loopbackPending then (s.disarmStateTimer.releaseLine, .timeout) else (s.disarmStateTimer, .timeout)

/-- The event of one tick, by the priority of R227: a frame, then the pending event, then TIMEOUT, else none. -/
def State.deriveEvent (s : State) : State × Event :=
  if s.silence.expired s.tickCount then s.handOff
  else if s.pendingEvent ≠ .none then s.takePending
  else if s.stateTimer.expired s.tickCount then s.timeOut
  else (s, .none)

/-! ## Dispatch -/

/-- `resolve(cur, ev)` of R218. -/
def State.resolve (s : State) (ev : Event) : TopState :=
  match ev with
  | .init => .init
  | .jumpState => s.nextState
  | _ => s.curState

/-- The exit hook of every top state (R225). -/
def State.exitHook (s : State) : State := s.disarmStateTimer

/-- The entry hooks (R226). -/
def State.entryHook (s : State) (target : TopState) : State :=
  match target, s.role with
  | .init, _ => s
  | .idle, _ => s
  | .poll, .master => masterPollEntry s
  | .poll, .slave => slavePollEntry s
  | .select, .master => masterSelectEntry s
  | .select, .slave => slaveSelectEntry s

/-- R219: exit, the state changes, entry; nothing where the state stays. -/
def State.changeTop (s : State) (target : TopState) : State :=
  if target = s.curState then s else State.entryHook { s.exitHook with curState := target } target

/-- The INIT state's handler, both roles (R222). -/
def initHandler (s : State) (ev : Event) : State :=
  match ev with
  | .init =>
    State.post
      { s with
        rxCount := 0#9
        silence := s.silence.disarm
        stateTimer := s.stateTimer.disarm
        loopbackPending := false
        curValid := false
        pollSub := .sendDelay
        selectSub := .sendWaitOrReceiveWait
        actions := s.actions ++ [.rxMode, .rxArm] }
      .jumpState .idle
  | _ => s

/-- R220: the handler of the role and the resolved state. -/
def State.handle (s : State) (ev : Event) : State :=
  match s.curState, s.role with
  | .init, _ => initHandler s ev
  | .idle, .master => masterIdle s ev
  | .idle, .slave => slaveIdle s ev
  | .poll, .master => masterPoll s ev
  | .poll, .slave => slavePoll s ev
  | .select, .master => masterSelect s ev
  | .select, .slave => slaveSelect s ev

/-- R217 to R220: no event ends the tick; any other is dispatched once. -/
def State.dispatch (s : State) (ev : Event) : State :=
  if ev = .none then s else (s.changeTop (s.resolve ev)).handle ev

/-! ## The strobes -/

/-- R211: the counter moves before any timer is tested. -/
def State.advanceTick (s : State) : State := { s with tickCount := inc32 s.tickCount }

/-- The tick of a running bus. -/
def State.runTick (s : State) : State := s.advanceTick.deriveEvent.1.dispatch s.advanceTick.deriveEvent.2

/-- `TICK()` of R210: no effect while the bus is not running. -/
def State.tick (s : State) : State := if s.running then s.runTick else s

/-- TICK (46_host.md R332). -/
def execTick (s : State) : Host.Outcome State Fault Refusal := .next (s.withReply []).tick

/-- RX_BYTE (R333): `RX_BYTE(b)` of R221, running or not. -/
def execRxByte (b : Byte) (s : State) : Host.Outcome State Fault Refusal := .next ((s.withReply []).receiveByte b)

end Sys2Proof.Machine
end

