-- ==== Sys2Proof/Machine/HostPort.lean ====
section
/-! DEFINITION. The host commands (spec/46_host.md R320 to R331): each is one atomic step that changes the state its
rule names and nothing else, and sets the reply. -/

namespace Sys2Proof.Machine

/-- The reply ILLEGAL (30_encoding.md R116). -/
def illegalReply : List Byte := [0xEE#8]

/-- An illegal record: no state changes, no action is emitted, the reply is 0xEE (R116). -/
def State.illegalRecord (s : State) : State := s.withReply illegalReply

/-- The reply of a command whose word is `w`, ILLEGAL where it has none. -/
def wordReply (w : Option Word) : List Byte :=
  match w with
  | some w => wordBytes w
  | none => illegalReply

/-- INIT (R321): every piece of state takes its reset value, then the role and the station address are loaded. The
parameters, the inputs still to come and the actions already emitted are outside the block. -/
def execInit (r : Role) (a : Byte) (s : State) : Host.Outcome State Fault Refusal :=
  .next { State.resetWith s.params with role := r, stationAddress := a, input := s.input, actions := s.actions }

/-- CREATE_CHANNEL (R322): the slot allocated, or 0xFF. -/
def execCreateChannel (a : Byte) (pollActive selectActive : Bool) (outCap inCap : Byte) (s : State) :
    Host.Outcome State Fault Refusal :=
  match s.create a pollActive selectActive outCap inCap with
  | none => .next (s.withReply [0xFF#8])
  | some (i, t) => .next (t.withReply [BitVec.ofNat 8 i.val])

/-- START (R323): no effect where the bus runs already. -/
def execStart (s : State) : Host.Outcome State Fault Refusal :=
  if s.running then .next (s.withReply [])
  else .next (State.withReply { s with running := true, pendingEvent := .init } [])

/-- The packet SEND queues: it carries the channel's address (R326). -/
def sentPacket (c : Channel) (opcode : Byte) (payload : List Byte) : Packet :=
  { address := c.address, opcode := opcode, payload := payload }

/-- SEND on the channel `c` of slot `i` (R324). -/
def State.sendOn (s : State) (i : Fin nCh) (c : Channel) (opcode : Byte) (payload : List Byte) : State :=
  if c.state ≠ .online then s.withReply [0x01#8]
  else
    match c.outq.put (sentPacket c opcode payload) with
    | none => s.withReply [0x01#8]
    | some q => (s.setChannel i { c with outq := q }).withReply [0x00#8]

/-- SEND (R324 to R326): 0x00 OK, 0x01 REJECTED. -/
def execSend (id opcode : Byte) (payload : List Byte) (s : State) : Host.Outcome State Fault Refusal :=
  if maxPayload < payload.length then .next (s.withReply [0x01#8])
  else
    match s.channelOf id with
    | none => .next (s.withReply [0x01#8])
    | some (i, c) => .next (s.sendOn i c opcode payload)

/-- The reply of RECEIVE for a packet (30_encoding.md R114). -/
def packetReply (q : Packet) : List Byte :=
  [0x01#8, q.address, q.opcode, BitVec.ofNat 8 q.payload.length] ++ q.payload

/-- RECEIVE (R327): the packet returned leaves the inbound queue. -/
def execReceive (id : Byte) (s : State) : Host.Outcome State Fault Refusal :=
  match s.channelOf id with
  | none => .next (s.withReply [0x00#8])
  | some (i, c) =>
    match c.inq.get with
    | none => .next (s.withReply [0x00#8])
    | some (q, rest) => .next ((s.setChannel i { c with inq := rest }).withReply (packetReply q))

/-- IS_DATA_AVAILABLE (R328). -/
def execIsDataAvailable (id : Byte) (s : State) : Host.Outcome State Fault Refusal :=
  match s.channelOf id with
  | none => .next (s.withReply [0x00#8])
  | some (_, c) => .next (s.withReply [if c.inq.isEmpty then 0x00#8 else 0x01#8])

/-- CHANNEL_STATE (R329): the code of 10_state.md R69. -/
def execChannelState (id : Byte) (s : State) : Host.Outcome State Fault Refusal :=
  match s.channelOf id with
  | none => .next (s.withReply [channelStateNone])
  | some (_, c) => .next (s.withReply [0#6 ++ c.state.code])

/-- READ_STATUS (R330); a selector above 0x09 is illegal. -/
def execReadStatus (selector : Byte) (s : State) : Host.Outcome State Fault Refusal :=
  .next (s.withReply (wordReply (s.statusWord selector)))

/-- READ_CHANNEL (R331); a slot above 0x1F or a selector above 0x03 is illegal. -/
def execReadChannel (id selector : Byte) (s : State) : Host.Outcome State Fault Refusal :=
  .next (s.withReply (wordReply (s.readChannelWord id selector)))

end Sys2Proof.Machine
end

