-- ==== Sys2Proof/Machine/Wire.lean ====
section
/-! DEFINITION. The wire frames (spec/30_encoding.md R101 to R106, 40_codec.md R141 to R146) as inputs: a frame on the
line reaches the block as its bytes, in index order, on the byte input (20_memory.md R89, 43_engine.md R221), with no
tick between them (R118's `RXF`). What the block does about the frame it does at the tick that completes it
(R212 to R214), so nothing but the framer moves here. What the codec makes of the bytes is `encodeFrame` and
`decodeFrame` of Decode.lean, used by the handlers and by the hand-off. Log entry 4. -/

namespace Sys2Proof.Machine

/-- The bytes of the frame `f`, delivered. -/
def State.deliver (s : State) (f : Frame) : State := (s.withReply []).receiveBytes (encodeFrame s.params f)

/-- ACK (R101, R141). -/
def execAck (s : State) : Host.Outcome State Fault Refusal := .next (s.deliver .ack)

/-- NACK (R102, R142). -/
def execNack (s : State) : Host.Outcome State Fault Refusal := .next (s.deliver .nack)

/-- EOT (R103, R143). -/
def execEot (s : State) : Host.Outcome State Fault Refusal := .next (s.deliver .eot)

/-- POLL (R104, R144). -/
def execPoll (a : Byte) (s : State) : Host.Outcome State Fault Refusal := .next (s.deliver (.poll a))

/-- SELECT (R105, R145). -/
def execSelect (a opcode : Byte) (payload : List Byte) (s : State) : Host.Outcome State Fault Refusal :=
  .next (s.deliver (.select ⟨a, opcode, payload⟩))

/-- RESPOND (R106, R146). -/
def execRespond (a opcode : Byte) (payload : List Byte) (s : State) : Host.Outcome State Fault Refusal :=
  .next (s.deliver (.respond ⟨a, opcode, payload⟩))

end Sys2Proof.Machine
end

