-- ==== Sys2Proof/Machine/Dispatch.lean ====
section
/-! DEFINITION. One arm per constructor of `Instr`: the meaning of each instruction. -/

namespace Sys2Proof.Machine

def exec (i : Instr) (s : State) : Host.Outcome State Fault Refusal :=
  match i with
  | .init r a => Sys2Proof.Machine.execInit r a s
  | .createChannel a pa sa oc ic => Sys2Proof.Machine.execCreateChannel a pa sa oc ic s
  | .start => Sys2Proof.Machine.execStart s
  | .send id o payload => Sys2Proof.Machine.execSend id o payload s
  | .receive id => Sys2Proof.Machine.execReceive id s
  | .isDataAvailable id => Sys2Proof.Machine.execIsDataAvailable id s
  | .channelState id => Sys2Proof.Machine.execChannelState id s
  | .readStatus selector => Sys2Proof.Machine.execReadStatus selector s
  | .readChannel id selector => Sys2Proof.Machine.execReadChannel id selector s
  | .tick => Sys2Proof.Machine.execTick s
  | .rxByte b => Sys2Proof.Machine.execRxByte b s
  | .ack => Sys2Proof.Machine.execAck s
  | .nack => Sys2Proof.Machine.execNack s
  | .eot => Sys2Proof.Machine.execEot s
  | .poll a => Sys2Proof.Machine.execPoll a s
  | .select a o payload => Sys2Proof.Machine.execSelect a o payload s
  | .respond a o payload => Sys2Proof.Machine.execRespond a o payload s

end Sys2Proof.Machine
end

