-- ==== Sys2Proof/Machine/Fetch.lean ====
section
/-! DEFINITION. How an input is taken. The block fetches no instructions (20_memory.md R98): it moves only when an agent
outside strobes it (00_scope.md R7), and the inputs take effect one at a time in one total order (20_memory.md R93),
the order of `State.input` (log entry 3). -/

namespace Sys2Proof.Machine

/-- What an input does that names no instruction: an illegal record is answered 0xEE and changes nothing
(30_encoding.md R116); bytes on the wire that are no frame are delivered all the same, since the block cannot tell
before the frame is complete (R108, R112). -/
def State.takeUndecoded (s : State) (x : Strobe) : State :=
  match x with
  | .record _ => s.illegalRecord
  | .frame bytes => (s.withReply []).receiveBytes bytes

/-- The step that the input `x` causes. -/
def State.take (s : State) (x : Strobe) : Host.Outcome State Fault Refusal :=
  match decodeStrobe s.params x with
  | .ok i => exec i s
  | .error _ => .next (s.takeUndecoded x)

/-- One step: the first input that is still to be delivered is taken. Without an input nothing moves (00_scope.md R7,
60_exceptions.md R375). -/
def State.takeNext (s : State) : Host.Outcome State Fault Refusal :=
  match s.input with
  | [] => .next s
  | x :: rest => State.take { s with input := rest } x

/-- `s` with the word `w` of spec/opcode_table.json as its next input. The table writes the wire frames with the
vector values of the control codes, so a wire frame brings those parameters with it (log entry 5). -/
def State.placeWord (s : State) (nbits w : Nat) : State :=
  match tableStrobe nbits w with
  | .record bytes => { s with input := .record bytes :: s.input }
  | .frame bytes => { s with input := .frame bytes :: s.input, params := Params.vector }

end Sys2Proof.Machine
end

