-- ==== Sys2Proof/Machine/Step.lean ====
section
/-! DEFINITION. The step function, and the placing of a word where the step finds it. -/

namespace Sys2Proof.Machine

/-- One step of the block: Machine/Fetch.lean. -/
def step (s : State) : Host.Outcome State Fault Refusal := s.takeNext

/-- `s` with the instruction word `w` of `nbits` bits as the very next input: Machine/Fetch.lean. -/
def State.withFetchWord (s : State) (nbits w : Nat) : State := s.placeWord nbits w

end Sys2Proof.Machine
end

