-- ==== Sys2Proof/Safety.lean ====
section
/-! DEFINITION. What counts as a safe state, in the terms the statements use, and the vocabulary of the statements about
a tick: what falls due at it, and the state in which its event is handled. -/

namespace Sys2Proof.Machine

/-! # Invariants

Each predicate is a decidable property of one state that the spec's rules give and every step keeps; none mentions how
the state was reached. -/

/-! ## Storage -/

/-- Both byte buffers are in canonical form. -/
abbrev State.BuffersOk (s : State) : Prop := s.rxBuf.wf = true ∧ s.txBuf.wf = true

/-- The framer (10_state.md R41, 43_engine.md R212): at most 256 bytes are held, and the silence timer is armed exactly
while at least one is. -/
abbrev State.FramerOk (s : State) : Prop :=
  s.rxCount.toNat ≤ maxFrame ∧ (s.silence.armed = true ↔ 0 < s.rxCount.toNat)

/-- A packet's payload is within its bound (20_memory.md R83). -/
def payloadOk (p : Packet) : Bool := decide (p.payload.length ≤ maxPayload)

/-- A queue (20_memory.md R84): a legal capacity, at most that many packets, each within its bound. -/
def Queue.ok (p : Params) (q : Queue) : Bool :=
  legalCapacity p q.cap && decide (q.items.length ≤ q.cap.toNat) && q.items.all payloadOk

/-- An occupied slot: the retry count never exceeds its limit (10_state.md R61), both queues are as they must be. -/
def Channel.ok (p : Params) (c : Channel) : Bool := decide (c.retry ≤ maxRetry) && c.outq.ok p && c.inq.ok p

/-- Every occupied slot is as it must be, both packet holders are within the payload bound, and the frame in the transmit
buffer is no longer than the longest frame (30_encoding.md R105). -/
abbrev State.PacketsOk (s : State) : Prop :=
  (∀ i : Fin nCh, (s.channel i).all (Channel.ok s.params) = true) ∧
  payloadOk s.rxPacket = true ∧ payloadOk s.txPacket = true ∧ s.txLen.toNat ≤ 56

/-! ## Control -/

/-- The current channel is valid and its slot occupied (10_state.md R51, 42_registry.md R182). -/
abbrev State.CurrentExists (s : State) : Prop := s.curValid = true ∧ (s.channel s.curIndex).isSome = true

/-- A stopped bus (R37, R76): nothing of the protocol has started. -/
abbrev State.StoppedOk (s : State) : Prop :=
  s.running = false →
    s.curState = .init ∧ s.pendingEvent = .none ∧ s.stateTimer.armed = false ∧ s.loopbackPending = false ∧
      s.tickCount = 0#32

/-- The pending event is none, INIT (in the INIT state only) or a jump (R50, 43_engine.md R224); no rule posts a jump to
INIT, and only IDLE posts a jump to itself (44_master.md R240, 45_slave.md R280). -/
abbrev State.PendingOk (s : State) : Prop :=
  (s.pendingEvent = .none ∨ s.pendingEvent = .init ∨ s.pendingEvent = .jumpState) ∧
  (s.pendingEvent = .init → s.curState = .init) ∧
  (s.pendingEvent = .jumpState → s.nextState ≠ .init ∧ (s.nextState = s.curState → s.curState = .idle))

/-- An exchange, running or about to be entered, has its channel (42_registry.md R182); a slave's is slot 0
(45_slave.md R281). -/
abbrev State.ExchangeOk (s : State) : Prop :=
  (s.curState = .poll ∨ s.curState = .select → s.CurrentExists) ∧
  (s.pendingEvent = .jumpState → s.nextState = .poll ∨ s.nextState = .select → s.CurrentExists) ∧
  (s.role = .slave → s.curValid = true → s.curIndex = 0)

/-- A master that is about to enter SELECT has a packet to send (44_master.md R258: "`get` cannot return `empty`
here"). -/
abbrev State.SelectReady (s : State) : Prop :=
  s.role = .master → s.pendingEvent = .jumpState → s.nextState = .select →
    (s.channel s.curIndex).any (fun c => !c.outq.isEmpty) = true

/-- The state timer is never armed in INIT and IDLE (44_master.md R245). -/
abbrev State.IdleQuiet (s : State) : Prop :=
  s.curState = .init ∨ s.curState = .idle → s.stateTimer.armed = false

/-- A running block is never stuck (60_exceptions.md R363): an event is pending, or the state timer runs, or it is a
slave that waits for the master. -/
abbrev State.NeverStuck (s : State) : Prop :=
  s.running = true → s.pendingEvent = .none →
    s.stateTimer.armed = true ∨ (s.role = .slave ∧ s.curState = .select ∧ s.selectSub = .sendWaitOrReceiveWait)

/-- The control state is sound. -/
abbrev State.ControlOk (s : State) : Prop :=
  s.StoppedOk ∧ s.PendingOk ∧ s.ExchangeOk ∧ s.SelectReady ∧ s.IdleQuiet ∧ s.NeverStuck

/-! ## Output -/

/-- The actions that turn the line around. -/
def Action.isDirection : Action → Bool
  | .txMode => true
  | .rxMode => true
  | .transmit _ => false
  | .rxArm => false

/-- The last direction action of a trace. -/
def lastDirection (trace : List Action) : Option Action := (trace.filter Action.isDirection).getLast?

/-- While an echo is awaited, the line was last turned to transmit (43_engine.md R223, R213, R216). -/
abbrev State.LineOk (s : State) : Prop :=
  s.loopbackPending = true → lastDirection s.actions = some .txMode

/-- How far a transmission has come on the transport port (46_host.md R342). -/
inductive LinePhase where
  /-- No transmission is open. -/
  | listening
  /-- TX_MODE was emitted; its TRANSMIT is due. -/
  | turned
  /-- The bytes were handed over; RX_MODE is due. -/
  | sent
deriving DecidableEq, Repr

/-- The direction discipline of 46_host.md R342, scanned along a trace: TX_MODE, then one TRANSMIT, then RX_MODE before
the next TX_MODE; `none` where the trace breaks it. RX_MODE while no transmission is open is the INIT handler's
(43_engine.md R222, 70_reset_and_hazards.md R382). -/
def LinePhase.along : LinePhase → List Action → Option LinePhase
  | phase, [] => some phase
  | .listening, .txMode :: rest => LinePhase.along .turned rest
  | .turned, .transmit _ :: rest => LinePhase.along .sent rest
  | .sent, .rxMode :: rest => LinePhase.along .listening rest
  | .listening, .rxMode :: rest => LinePhase.along .listening rest
  | phase, .rxArm :: rest => LinePhase.along phase rest
  | .listening, .transmit _ :: _ => none
  | .turned, .txMode :: _ => none
  | .turned, .rxMode :: _ => none
  | .sent, .txMode :: _ => none
  | .sent, .transmit _ :: _ => none

/-- Between two steps a transmission is open exactly while its echo is awaited (43_engine.md R213, R216, R223). -/
def State.linePhase (s : State) : LinePhase := if s.loopbackPending then .sent else .listening

/-! ## All of it -/

/-- The invariant of the block. -/
abbrev State.Inv (s : State) : Prop :=
  s.BuffersOk ∧ s.FramerOk ∧ s.PacketsOk ∧ s.ControlOk ∧ s.LineOk

/-! # What a tick finds

The conditions are those of spec/43_engine.md R210, in the spec's own terms (R192, R210): nothing here mentions the
functions that derive or dispatch the event. -/

/-- The counter value that every timer test of the next tick sees (R211). -/
abbrev State.now (s : State) : Word := s.tickCount + 1#32

/-- `expired(T)` of 42_registry.md R192, when the counter is `now`. -/
abbrev Timer.Elapsed (t : Timer) (now : Word) : Prop := t.armed = true ∧ t.interval.toNat ≤ (now - t.start).toNat

/-- The next tick completes a frame (R212). -/
abbrev State.FrameDue (s : State) : Prop := s.running = true ∧ s.silence.Elapsed s.now

/-- The next tick completes the echo of the station's own transmission (R213). -/
abbrev State.EchoDue (s : State) : Prop := s.FrameDue ∧ s.loopbackPending = true

/-- The next tick completes a frame that decodes to the kind `k` with the packet `p` (R214). -/
abbrev State.ReceiveDue (s : State) (k : FrameKind) (p : Packet) : Prop :=
  s.FrameDue ∧ s.loopbackPending = false ∧ decodeFrame s.params s.rxFrame = (k, p) ∧ k ≠ .none

/-- The next tick completes a frame that decodes to NONE (R214). -/
abbrev State.GarbageDue (s : State) : Prop :=
  s.FrameDue ∧ s.loopbackPending = false ∧ (decodeFrame s.params s.rxFrame).1 = .none

/-- The next tick consumes the pending event `e` (R215). -/
abbrev State.PendingDue (s : State) (e : Event) : Prop :=
  s.running = true ∧ ¬ s.silence.Elapsed s.now ∧ s.pendingEvent = e ∧ e ≠ .none

/-- The next tick produces TIMEOUT (R216). -/
abbrev State.TimeoutDue (s : State) : Prop :=
  s.running = true ∧ ¬ s.silence.Elapsed s.now ∧ s.pendingEvent = .none ∧ s.stateTimer.Elapsed s.now

/-- The next tick produces no event and completes no frame (R217). -/
abbrev State.NothingDue (s : State) : Prop :=
  s.running = true ∧ ¬ s.silence.Elapsed s.now ∧ s.pendingEvent = .none ∧ ¬ s.stateTimer.Elapsed s.now

/-- The next tick takes a master into SELECT while the echo of an earlier transmission is still awaited: the one case in
which a send rule, 44_master.md R258, does not find `loopback_pending = 0` (log entry 7). -/
abbrev State.SelectOverAnEcho (s : State) : Prop :=
  s.role = .master ∧ s.loopbackPending = true ∧ s.PendingDue .jumpState ∧ s.nextState = .select ∧ s.curState ≠ .select

/-! ## The state in which the event is handled -/

/-- After R211 and R213: the echo is complete. -/
def State.tickEcho (s : State) : State :=
  { s with
    reply           := []
    tickCount       := s.now
    rxCount         := 0#9
    silence         := { s.silence with armed := false }
    loopbackPending := false
    actions         := s.actions ++ [.rxMode] }

/-- After R211 and R214: a frame of kind `k` is recorded. -/
def State.tickFrame (s : State) (k : FrameKind) (p : Packet) : State :=
  { s with
    reply     := []
    tickCount := s.now
    rxCount   := 0#9
    silence   := { s.silence with armed := false }
    rxKind    := k
    rxPacket  := p
    msgCount  := s.msgCount + 1#32
    errCount  := if k = .error then s.errCount + 1#32 else s.errCount }

/-- After R211 and R215: the pending event is consumed. -/
def State.tickPending (s : State) : State :=
  { s with reply := [], tickCount := s.now, pendingEvent := .none }

/-- After R211, R215, R218 and R219: a jump to the requested state is made; the exit hook ran where the state changes
(R225). -/
def State.tickJump (s : State) : State :=
  { s.tickPending with
    curState   := s.nextState
    stateTimer := if s.nextState = s.curState then s.stateTimer else { s.stateTimer with armed := false } }

/-- After R211 and R216: the state timer is consumed, and the line released where an echo was awaited. -/
def State.tickTimeout (s : State) : State :=
  { s with
    reply           := []
    tickCount       := s.now
    stateTimer      := { s.stateTimer with armed := false }
    loopbackPending := false
    actions         := if s.loopbackPending then s.actions ++ [.rxMode] else s.actions }

/-! # Inputs, in the spec's terms -/

/-- The length 30_encoding.md R113 requires of a record whose opcode is `op` and whose byte 3 is `n`. -/
def requiredLength (op n : Nat) : Nat :=
  match op with
  | 0x01 => 3
  | 0x02 => 5
  | 0x03 => 1
  | 0x04 => 4 + n
  | 0x09 => 3
  | 0x0A => 1
  | _ => 2

/-- An illegal command record, clause by clause as 30_encoding.md R116 lists them (a record of no bytes has no opcode
and counts under the first). -/
abbrev IllegalRecord (f : List Byte) : Prop :=
  (f.getD 0 0x00#8).toNat = 0 ∨ 0x0C ≤ (f.getD 0 0x00#8).toNat ∨
  f.length ≠ requiredLength (f.getD 0 0x00#8).toNat (f.getD 3 0x00#8).toNat ∨
  (f.getD 0 0x00#8 = 0x01#8 ∧ 0x01 < (f.getD 1 0x00#8).toNat) ∨
  (f.getD 0 0x00#8 = 0x02#8 ∧ (f.getD 2 0x00#8).extractLsb' 2 6 ≠ 0#6) ∨
  (f.getD 0 0x00#8 = 0x08#8 ∧ 0x09 < (f.getD 1 0x00#8).toNat) ∨
  (f.getD 0 0x00#8 = 0x09#8 ∧ (0x1F < (f.getD 1 0x00#8).toNat ∨ 0x03 < (f.getD 2 0x00#8).toNat))

/-- A capacity that can be allocated (42_registry.md R180): a power of two, 1 to `QUEUE_CAP_MAX`. -/
abbrev CapacityLegal (p : Params) (c : Byte) : Prop :=
  (∃ k, k < 8 ∧ c.toNat = 2 ^ k) ∧ c.toNat ≤ p.queueCapMax.toNat

/-- The bytes of a SELECT frame (30_encoding.md R105, R107). -/
def selectBytes (p : Params) (q : Packet) : List Byte :=
  [p.ccEot, 0x02#8, q.address, q.opcode] ++ q.payload ++
    [p.ccEtx, xorFold ([q.address, q.opcode] ++ q.payload ++ [p.ccEtx])]

/-- The bytes of a RESPOND frame (R106, R107). -/
def respondBytes (p : Params) (q : Packet) : List Byte :=
  [0x02#8, q.address, q.opcode] ++ q.payload ++
    [p.ccEtx, xorFold ([q.address, q.opcode] ++ q.payload ++ [p.ccEtx])]

/-- The packet read by position from a frame of SELECT shape (40_codec.md R157): address `f[2]`, opcode `f[3]`, payload
`f[4..L-3]`. -/
def packetByPosition (f : List Byte) : Packet :=
  ⟨f.getD 2 0x00#8, f.getD 3 0x00#8, (f.drop 4).take (f.length - 6)⟩

/-- A frame of SELECT shape and of a length that has room for its fields, whose block check fails (R150, R154): the
check `f[L-1]` covers `f[2..L-2]`, and ETX stands at index `L-2`. -/
abbrev DamagedSelect (p : Params) (f : List Byte) : Prop :=
  6 ≤ f.length ∧ f.length ≤ 56 ∧ f.getD 0 0x00#8 = p.ccEot ∧ f.getD 1 0x00#8 = 0x02#8 ∧
  f.getD (f.length - 2) 0x00#8 = p.ccEtx ∧
  xorFold ((f.drop 2).take (f.length - 3)) ≠ f.getD (f.length - 1) 0x00#8

/-- The bytes on the wire of a wire-frame instruction (R101 to R106); a host command has none. -/
def wireBytes (p : Params) : Instr → Option (List Byte)
  | .ack => some [p.ccAck]
  | .nack => some [p.ccNack]
  | .eot => some [p.ccEot]
  | .poll a => some [p.ccEot, a, p.ccPoll]
  | .select a o payload => some (selectBytes p ⟨a, o, payload⟩)
  | .respond a o payload => some (respondBytes p ⟨a, o, payload⟩)
  | .init _ _ => none
  | .createChannel _ _ _ _ _ => none
  | .start => none
  | .send _ _ _ => none
  | .receive _ => none
  | .isDataAvailable _ => none
  | .channelState _ => none
  | .readStatus _ => none
  | .readChannel _ _ => none
  | .tick => none
  | .rxByte _ => none

/-- An instruction that is a host command and no strobe: neither TICK, nor RX_BYTE, nor a frame on the wire, nor INIT
(46_host.md R334). -/
def isQuietCommand : Instr → Bool
  | .createChannel _ _ _ _ _ => true
  | .start => true
  | .send _ _ _ => true
  | .receive _ => true
  | .isDataAvailable _ => true
  | .channelState _ => true
  | .readStatus _ => true
  | .readChannel _ _ => true
  | .init _ _ => false
  | .tick => false
  | .rxByte _ => false
  | .ack => false
  | .nack => false
  | .eot => false
  | .poll _ => false
  | .select _ _ _ => false
  | .respond _ _ _ => false

/-- The instruction is INIT (46_host.md R321), the one command that frees channels. -/
def isInit : Instr → Bool
  | .init _ _ => true
  | .createChannel _ _ _ _ _ => false
  | .start => false
  | .send _ _ _ => false
  | .receive _ => false
  | .isDataAvailable _ => false
  | .channelState _ => false
  | .readStatus _ => false
  | .readChannel _ _ => false
  | .tick => false
  | .rxByte _ => false
  | .ack => false
  | .nack => false
  | .eot => false
  | .poll _ => false
  | .select _ _ _ => false
  | .respond _ _ _ => false

/-! # What is visible -/

/-- Two states differ at most in buffer bytes that no rule reads (10_state.md R76: "no rule reads a receive byte at an
index at or above `rx_count` or a transmit byte at or above `tx_len`"). -/
abbrev State.SameBut (s u : State) : Prop :=
  { s with rxBuf := [], txBuf := [] } = { u with rxBuf := [], txBuf := [] } ∧
  s.rxFrame = u.rxFrame ∧ s.txFrame = u.txFrame

/-- No two transmissions without a return to receive mode between them, scanning a trace; `busy` says whether a
transmission is still unreturned. -/
def transmitsApart (busy : Bool) : List Action → Bool
  | [] => true
  | .txMode :: rest => transmitsApart busy rest
  | .rxMode :: rest => transmitsApart false rest
  | .transmit _ :: rest => !busy && transmitsApart true rest
  | .rxArm :: rest => transmitsApart busy rest

/-- The state after the block has taken the inputs `xs`, one after another. -/
def State.after (s : State) : List Strobe → State
  | [] => s
  | x :: xs =>
    match State.take s x with
    | .next t => State.after t xs
    | .fault _ => s
    | .refused _ => s

end Sys2Proof.Machine
end

