-- ==== Sys2Proof/Certificates/Slice0/Obligations.lean ====
section
/-! DEFINITION. The statements for the provers. Each is about the machine, none about a program. Where a rule gives an
instruction's result, the statement gives the whole next state, so that it says what the instruction changes, that
nothing else changes, and that it completes. Every byte of the two buffers is data of that state; what a read of a
buffer gives after a write is said by O22, O23 and O58. -/

open Sys2Proof Sys2Proof.Machine

/-! # Encodings -/

/-- Every legal instruction is read back from its encoding, with every operand at every value (30_encoding.md R101 to
R106, R114; the control codes as R9 requires them). -/
def Obligations.DecodeOfEncodeIsTheInstruction : Prop :=
  ∀ (p : Params) (i : Instr), p.CodesDistinct → i.wellFormed = true → decodeStrobe p (encode p i) = .ok i

/-- An input that decodes is the one encoding of a legal instruction: no bit of it is ignored, and its payload is
within its bound (40_codec.md R158). -/
def Obligations.AcceptedInputHasOneSpelling : Prop :=
  ∀ (p : Params) (x : Strobe) (i : Instr), decodeStrobe p x = .ok i → encode p i = x ∧ i.wellFormed = true

/-- 40_codec.md R160, all six kinds. -/
def Obligations.CodecRoundTrip : Prop :=
  ∀ (p : Params) (q : Packet), p.CodesDistinct → q.payload.length ≤ 50 →
    decodeFrame p (encodeFrame p (.select q)) = (.select, q) ∧
    decodeFrame p (encodeFrame p (.respond q)) = (.respond, q) ∧
    decodeFrame p (encodeFrame p (.poll q.address)) = (.poll, ⟨q.address, 0x00#8, []⟩) ∧
    decodeFrame p (encodeFrame p .ack) = (.ack, ⟨0x00#8, 0x00#8, []⟩) ∧
    decodeFrame p (encodeFrame p .nack) = (.nack, ⟨0x00#8, 0x00#8, []⟩) ∧
    decodeFrame p (encodeFrame p .eot) = (.eot, ⟨0x00#8, 0x00#8, []⟩)

/-- 40_codec.md R161: one byte of a SELECT or RESPOND frame replaced by a different value, at every index the rule
names; an ERROR carries the packet read by position (R157). Whatever the bytes, the verdict is ERROR exactly for a frame
of SELECT shape and of 6 to 56 bytes whose block check fails, and then carries that packet; frames of 4 and 5 bytes that
begin as a SELECT does are NONE (R154). -/
def Obligations.SingleByteCorruptionIsDetected : Prop :=
  (∀ (p : Params) (q : Packet) (j : Nat) (b : Byte), p.CodesDistinct → q.payload.length ≤ 50 →
    (2 ≤ j → j ≤ q.payload.length + 3 → b ≠ (selectBytes p q).getD j 0x00#8 →
      decodeFrame p ((selectBytes p q).set j b) = (.error, packetByPosition ((selectBytes p q).set j b))) ∧
    (j = q.payload.length + 4 → b ≠ p.ccEtx → (decodeFrame p ((selectBytes p q).set j b)).1 = .none) ∧
    (j = q.payload.length + 5 → b ≠ (selectBytes p q).getD j 0x00#8 →
      decodeFrame p ((selectBytes p q).set j b) = (.error, q)) ∧
    (j = 1 → b ≠ 0x02#8 → (decodeFrame p ((selectBytes p q).set j b)).1 = .none) ∧
    (j = 0 → b ≠ p.ccEot → (decodeFrame p ((selectBytes p q).set j b)).1 = .none) ∧
    (1 ≤ j → j ≤ q.payload.length + 4 → b ≠ (respondBytes p q).getD j 0x00#8 →
      (decodeFrame p ((respondBytes p q).set j b)).1 = .none)) ∧
  (∀ (p : Params) (f : List Byte), p.CodesDistinct →
    ((decodeFrame p f).1 = .error ↔ DamagedSelect p f) ∧
    (DamagedSelect p f → decodeFrame p f = (.error, packetByPosition f)) ∧
    (f.length = 4 ∨ f.length = 5 → f.getD 0 0x00#8 = p.ccEot → f.getD 1 0x00#8 = 0x02#8 →
      (decodeFrame p f).1 = .none))

/-- 40_codec.md R140: the fold, the independence of the order, the cancelling of equal bytes, and the change that a
single changed byte makes. -/
def Obligations.ChecksumIsAnOrderFreeXor : Prop :=
  (∀ s : List Byte, bcc s = s.foldl (fun c b => c ^^^ b) 0x00#8) ∧
  (∀ s u : List Byte, s.Perm u → bcc s = bcc u) ∧
  (∀ (s : List Byte) (b : Byte), bcc (b :: b :: s) = bcc s) ∧
  (∀ (s : List Byte) (j : Nat) (b : Byte), j < s.length → b ≠ s.getD j 0x00#8 → bcc (s.set j b) ≠ bcc s) ∧
  bcc [0x01#8, 0x10#8, 0xAA#8, 0xBB#8, 0x03#8] = 0x03#8

/-- A sanity check of the decoders on inputs written out from the tables of 30_encoding.md, with the vector values of
the control codes: one of each family. -/
def Obligations.WrittenOutInputsDecode : Prop :=
  decodeRecord [0x01#8, 0x01#8, 0x19#8] = .ok (.init .slave 0x19#8) ∧
  decodeRecord [0x02#8, 0x01#8, 0x03#8, 0x04#8, 0x08#8] = .ok (.createChannel 0x01#8 true true 0x04#8 0x08#8) ∧
  decodeRecord [0x02#8, 0x01#8, 0x02#8, 0x04#8, 0x08#8] = .ok (.createChannel 0x01#8 false true 0x04#8 0x08#8) ∧
  decodeRecord [0x04#8, 0x00#8, 0x10#8, 0x02#8, 0xAA#8, 0xBB#8] = .ok (.send 0x00#8 0x10#8 [0xAA#8, 0xBB#8]) ∧
  decodeRecord [0x09#8, 0x1F#8, 0x03#8] = .ok (.readChannel 0x1F#8 0x03#8) ∧
  decodeRecord [0x0B#8, 0x06#8] = .ok (.rxByte 0x06#8) ∧
  decodeWire Params.vector [0x04#8, 0x09#8, 0x05#8] = .ok (.poll 0x09#8) ∧
  decodeWire Params.vector [0x04#8, 0x02#8, 0x01#8, 0x10#8, 0xAA#8, 0xBB#8, 0x03#8, 0x03#8] =
    .ok (.select 0x01#8 0x10#8 [0xAA#8, 0xBB#8]) ∧
  decodeWire Params.vector [0x02#8, 0x01#8, 0x20#8, 0x03#8, 0x03#8, 0x21#8] =
    .ok (.respond 0x01#8 0x20#8 [0x03#8]) ∧
  decodeWire Params.vector [0x15#8] = .ok .nack

/-- 30_encoding.md R116: a record is answered 0xEE and changes nothing exactly where one of the rule's clauses holds;
any other record runs the instruction it stands for. That inputs wait in a list is the model's choice (log entry 3). That
a record of no bytes is illegal too is no clause of R116 but the model's inference (log entry 12). -/
def Obligations.IllegalRecordIsAnsweredAndChangesNothing : Prop :=
  ∀ (s : State) (f : List Byte) (rest : List Strobe), s.input = .record f :: rest →
    (IllegalRecord f → step s = .next { s with input := rest, reply := [0xEE#8] }) ∧
    (¬ IllegalRecord f → ∃ i, decodeRecord f = .ok i ∧ step s = exec i { s with input := rest })

/-! # The step -/

/-- An input that decodes is taken off the inputs still to come and its instruction runs on what is left. That inputs
wait in a list is the model's choice (log entry 3). -/
def Obligations.StepRunsTheDecodedInstruction : Prop :=
  ∀ (s : State) (x : Strobe) (rest : List Strobe) (i : Instr), s.input = x :: rest →
    decodeStrobe s.params x = .ok i → step s = exec i { s with input := rest }

/-- Without an input nothing moves (60_exceptions.md R375); bytes on the wire that are no frame reach the framer all
the same, one by one as R221 of 43_engine.md delivers each. That inputs wait in a list is the model's choice (log entry
3); so is an input of several bytes on the wire and its delivery in one step (log entry 4); that an input of no bytes
delivers nothing is the model's inference (log entry 12). -/
def Obligations.StepWithoutAnInstruction : Prop :=
  (∀ s : State, s.input = [] → step s = .next s) ∧
  (∀ (s : State) (bytes : List Byte) (rest : List Strobe) (e : DecodeError), s.input = .frame bytes :: rest →
    decodeWire s.params bytes = .error e →
    step s = .next (State.receiveBytes { s with input := rest, reply := [] } bytes))

/-- 60_exceptions.md R363, 20_memory.md R98, 46_host.md R340: every step of every state answers a next state, the
parameters never change, and no action once emitted is taken back. -/
def Obligations.StepAlwaysAnswersANextState : Prop :=
  ∀ s : State, ∃ t, step s = .next t ∧ t.params = s.params ∧ ∃ emitted, t.actions = s.actions ++ emitted

/-! # Reset and INIT -/

/-- The reset values of 10_state.md R76, row by row. The two buffers' bytes are unspecified there and are not
mentioned; the fields of an unoccupied slot hold no value. -/
def Obligations.ResetValues : Prop :=
  State.reset.role = .master ∧ State.reset.stationAddress = 0x00#8 ∧ State.reset.running = false ∧
  State.reset.tickCount = 0#32 ∧ State.reset.silence = ⟨false, 0#32, 0#32⟩ ∧
  State.reset.stateTimer = ⟨false, 0#32, 0#32⟩ ∧ State.reset.rxCount = 0#9 ∧ State.reset.txLen = 0#9 ∧
  State.reset.loopbackPending = false ∧ State.reset.rxKind = .none ∧
  State.reset.rxPacket = ⟨0x00#8, 0x00#8, []⟩ ∧ State.reset.txPacket = ⟨0x00#8, 0x00#8, []⟩ ∧
  State.reset.curState = .init ∧ State.reset.nextState = .init ∧ State.reset.pollSub.code = 0#2 ∧
  State.reset.selectSub.code = 0#1 ∧ State.reset.pendingEvent = .none ∧ State.reset.curIndex = 0 ∧
  State.reset.curValid = false ∧ State.reset.msgCount = 0#32 ∧ State.reset.errCount = 0#32 ∧
  State.reset.overrunCount = 0#32 ∧ (∀ i : Fin nCh, State.reset.channel i = none)

/-- INIT (46_host.md R321), in every state: every piece of state takes the reset value of 10_state.md R76, then the
role and the address are loaded. The buffers' bytes are unspecified after it and are not constrained here; the
parameters, the inputs still to come and the actions already emitted are outside the block (log entry 3). -/
def Obligations.InitResetsEverything : Prop :=
  ∀ (r : Role) (a : Byte) (s : State), ∃ rx tx, exec (.init r a) s = .next
    { role := r, stationAddress := a, running := false, tickCount := 0#32, silence := ⟨false, 0#32, 0#32⟩,
      stateTimer := ⟨false, 0#32, 0#32⟩, rxCount := 0#9, rxBuf := rx, loopbackPending := false, rxKind := .none,
      rxPacket := ⟨0x00#8, 0x00#8, []⟩, txLen := 0#9, txBuf := tx, txPacket := ⟨0x00#8, 0x00#8, []⟩,
      curState := .init, nextState := .init, pollSub := .sendDelay, selectSub := .sendWaitOrReceiveWait,
      pendingEvent := .none, curIndex := 0, curValid := false, msgCount := 0#32, errCount := 0#32,
      overrunCount := 0#32, channels := Vector.replicate nCh none, params := s.params, input := s.input,
      reply := [], actions := s.actions }

/-! # Host commands -/

/-- CREATE_CHANNEL (46_host.md R322, 42_registry.md R180): both capacities legal and a slot free gives the lowest free
slot a new channel, its re-sync deadline disarmed; else the reply is 0xFF and nothing changes. What a disarmed deadline
that was never armed holds is not said here (log entry 8). -/
def Obligations.CreateChannelTakesTheLowestFreeSlot : Prop :=
  ∀ (s : State) (a : Byte) (pa sa : Bool) (oc ic : Byte),
    (∀ i : Fin nCh, CapacityLegal s.params oc → CapacityLegal s.params ic → s.channel i = none →
      (∀ j : Fin nCh, j < i → (s.channel j).isSome = true) →
      ∃ resync : Timer, resync.armed = false ∧
        exec (.createChannel a pa sa oc ic) s = .next
          { s.setChannel i
              { address := a, pollActive := pa, selectActive := sa, state := .init, notRespond := 0#8, retry := 0#8,
                preSelected := false, resync := resync, outq := ⟨oc, []⟩, inq := ⟨ic, []⟩ } with
            reply := [BitVec.ofNat 8 i.val] }) ∧
    (¬ CapacityLegal s.params oc ∨ ¬ CapacityLegal s.params ic ∨ (∀ i : Fin nCh, (s.channel i).isSome = true) →
      exec (.createChannel a pa sa oc ic) s = .next { s with reply := [0xFF#8] })

/-- START (46_host.md R323): it sets the bus running and posts INIT; on a running bus it has no effect. -/
def Obligations.StartRunsTheBusOnce : Prop :=
  ∀ s : State,
    (s.running = false → exec .start s = .next { s with running := true, pendingEvent := .init, reply := [] }) ∧
    (s.running = true → exec .start s = .next { s with reply := [] })

/-- SEND (46_host.md R324, R326): accepted, the packet with the channel's address joins the outbound queue; each of the
four causes rejects and changes nothing. -/
def Obligations.SendQueuesOrRejects : Prop :=
  ∀ (s : State) (id o : Byte) (payload : List Byte),
    (∀ (i : Fin nCh) (c : Channel), payload.length ≤ 50 → id.toNat = i.val → s.channel i = some c →
      c.state = .online → c.outq.items.length ≠ c.outq.cap.toNat →
      exec (.send id o payload) s = .next
        { s.setChannel i
            { c with outq := { c.outq with items := c.outq.items ++ [⟨c.address, o, payload⟩] } } with
          reply := [0x00#8] }) ∧
    (50 < payload.length ∨ 32 ≤ id.toNat ∨
        (∃ i : Fin nCh, id.toNat = i.val ∧ s.channel i = none) ∨
        (∃ (i : Fin nCh) (c : Channel), id.toNat = i.val ∧ s.channel i = some c ∧
          (c.state ≠ .online ∨ c.outq.items.length = c.outq.cap.toNat)) →
      exec (.send id o payload) s = .next { s with reply := [0x01#8] })

/-- RECEIVE (46_host.md R327): the packet at the head of the inbound queue is returned and leaves it; an unknown
channel or an empty queue replies 0x00 and changes nothing. -/
def Obligations.ReceiveReturnsTheHead : Prop :=
  ∀ (s : State) (id : Byte),
    (∀ (i : Fin nCh) (c : Channel) (q : Packet) (rest : List Packet), id.toNat = i.val → s.channel i = some c →
      c.inq.items = q :: rest →
      exec (.receive id) s = .next
        { s.setChannel i { c with inq := { c.inq with items := rest } } with
          reply := [0x01#8, q.address, q.opcode, BitVec.ofNat 8 q.payload.length] ++ q.payload }) ∧
    (32 ≤ id.toNat ∨ (∃ i : Fin nCh, id.toNat = i.val ∧ s.channel i = none) ∨
        (∃ (i : Fin nCh) (c : Channel), id.toNat = i.val ∧ s.channel i = some c ∧ c.inq.items = []) →
      exec (.receive id) s = .next { s with reply := [0x00#8] })

/-- IS_DATA_AVAILABLE (46_host.md R328) and CHANNEL_STATE (R329, the codes of 10_state.md R69): the reply, and no
change. -/
def Obligations.ChannelQueriesReply : Prop :=
  ∀ (s : State) (id : Byte),
    (∀ (i : Fin nCh) (c : Channel), id.toNat = i.val → s.channel i = some c →
      exec (.isDataAvailable id) s = .next { s with reply := [if c.inq.items = [] then 0x00#8 else 0x01#8] } ∧
      exec (.channelState id) s = .next
        { s with reply :=
            [match c.state with
              | .init => 0x01#8
              | .offline => 0x02#8
              | .online => 0x03#8] }) ∧
    (32 ≤ id.toNat ∨ (∃ i : Fin nCh, id.toNat = i.val ∧ s.channel i = none) →
      exec (.isDataAvailable id) s = .next { s with reply := [0x00#8] } ∧
      exec (.channelState id) s = .next { s with reply := [0x00#8] })

/-- READ_STATUS (46_host.md R330): the word of 10_state.md R73, field by field, least significant byte first
(20_memory.md R90); a selector above 0x09 is illegal. Nothing else changes. -/
def Obligations.ReadStatusWords : Prop :=
  ∀ (s : State) (sel : Byte),
    (sel.toNat ≤ 0x09 → ∃ w : Word,
      exec (.readStatus sel) s = .next
        { s with
          reply := [w.extractLsb' 0 8, w.extractLsb' 8 8, w.extractLsb' 16 8, w.extractLsb' 24 8] } ∧
      (sel = 0x00#8 → w.extractLsb' 0 8 = s.stationAddress ∧ w.extractLsb' 8 1 = roleCode s.role ∧
        w.getLsbD 9 = s.running ∧ w.extractLsb' 10 22 = 0#22) ∧
      (sel = 0x01#8 → w = s.tickCount) ∧ (sel = 0x02#8 → w = s.msgCount) ∧ (sel = 0x03#8 → w = s.errCount) ∧
      (sel = 0x04#8 → w = s.overrunCount) ∧
      (sel = 0x05#8 → w.extractLsb' 0 2 = s.curState.code ∧ w.extractLsb' 2 2 = s.nextState.code ∧
        w.extractLsb' 4 3 = s.pendingEvent.code ∧ w.getLsbD 7 = s.loopbackPending ∧
        w.extractLsb' 8 2 = s.pollSub.code ∧ w.extractLsb' 10 1 = s.selectSub.code ∧
        (w.extractLsb' 11 5).toNat = s.curIndex.val ∧ w.getLsbD 16 = s.curValid ∧
        w.getLsbD 17 = s.stateTimer.armed ∧ w.getLsbD 18 = s.silence.armed ∧
        w.extractLsb' 19 3 = kindCode s.rxKind ∧ w.extractLsb' 22 10 = 0#10) ∧
      (sel = 0x06#8 → w.extractLsb' 0 9 = s.rxCount ∧ w.extractLsb' 9 9 = s.txLen ∧
        w.extractLsb' 18 14 = 0#14) ∧
      (sel = 0x07#8 → w = s.stateTimer.start) ∧ (sel = 0x08#8 → w = s.stateTimer.interval) ∧
      (sel = 0x09#8 → w = s.silence.start)) ∧
    (0x09 < sel.toNat → exec (.readStatus sel) s = .next { s with reply := [0xEE#8] })

/-- READ_CHANNEL (46_host.md R331): the word of 10_state.md R74, field by field, 0 for an unoccupied slot, least
significant byte first; a slot above 0x1F or a selector above 0x03 is illegal. Nothing else changes. -/
def Obligations.ReadChannelWords : Prop :=
  ∀ (s : State) (id sel : Byte),
    (∀ (i : Fin nCh) (c : Channel), id.toNat = i.val → s.channel i = some c → sel.toNat ≤ 0x03 → ∃ w : Word,
      exec (.readChannel id sel) s = .next
        { s with
          reply := [w.extractLsb' 0 8, w.extractLsb' 8 8, w.extractLsb' 16 8, w.extractLsb' 24 8] } ∧
      (sel = 0x00#8 → w.getLsbD 0 = true ∧ w.extractLsb' 1 2 = c.state.code ∧ w.getLsbD 3 = c.pollActive ∧
        w.getLsbD 4 = c.selectActive ∧ w.getLsbD 5 = c.preSelected ∧ w.getLsbD 6 = c.resync.armed ∧
        w.getLsbD 7 = false ∧ w.extractLsb' 8 8 = c.address ∧ w.extractLsb' 16 8 = c.notRespond ∧
        w.extractLsb' 24 8 = c.retry) ∧
      (sel = 0x01#8 → (w.extractLsb' 0 8).toNat = c.outq.items.length % 256 ∧ w.extractLsb' 8 8 = c.outq.cap ∧
        (w.extractLsb' 16 8).toNat = c.inq.items.length % 256 ∧ w.extractLsb' 24 8 = c.inq.cap) ∧
      (sel = 0x02#8 → w = c.resync.start) ∧ (sel = 0x03#8 → w = c.resync.interval)) ∧
    (∀ i : Fin nCh, id.toNat = i.val → s.channel i = none → sel.toNat ≤ 0x03 →
      exec (.readChannel id sel) s = .next { s with reply := [0x00#8, 0x00#8, 0x00#8, 0x00#8] }) ∧
    (0x1F < id.toNat ∨ 0x03 < sel.toNat → exec (.readChannel id sel) s = .next { s with reply := [0xEE#8] })

/-- The enumeration codes that the status words and the replies carry (10_state.md R48, R49, R65, R66, R68, R69,
R70). -/
def Obligations.EnumerationCodes : Prop :=
  [TopState.init, .idle, .poll, .select].map TopState.code = [0#2, 1#2, 2#2, 3#2] ∧
  [FrameKind.none, .ack, .nack, .eot, .poll, .select, .respond, .error].map kindCode =
    [0#3, 1#3, 2#3, 3#3, 4#3, 5#3, 6#3, 7#3] ∧
  [PollSub.sendDelay, .sendWait, .replyWait, .sendAckDelay].map PollSub.code = [0#2, 1#2, 2#2, 3#2] ∧
  [SelectSub.sendWaitOrReceiveWait, .replyAckWaitOrSendAckDelay].map SelectSub.code = [0#1, 1#1] ∧
  [Event.none, .frame, .loopback, .init, .jumpState, .timeout].map Event.code = [0#3, 1#3, 2#3, 3#3, 4#3, 5#3] ∧
  [ChannelState.init, .offline, .online].map ChannelState.code = [1#2, 2#2, 3#2] ∧ channelStateNone = 0x00#8 ∧
  [Role.master, .slave].map roleCode = [0#1, 1#1]

/-- 46_host.md R334: a host command other than INIT emits no action and touches neither the control state nor the
receive buffer, nor anything of the framer, the timers and the counters. -/
def Obligations.HostCommandsLeaveTheEngineAlone : Prop :=
  ∀ (i : Instr) (s : State), isQuietCommand i = true → ∃ t, exec i s = .next t ∧
    t.actions = s.actions ∧ t.curState = s.curState ∧ t.nextState = s.nextState ∧ t.pollSub = s.pollSub ∧
    t.selectSub = s.selectSub ∧ t.curIndex = s.curIndex ∧ t.curValid = s.curValid ∧ t.rxBuf = s.rxBuf ∧
    t.rxCount = s.rxCount ∧ t.txBuf = s.txBuf ∧ t.txLen = s.txLen ∧ t.rxKind = s.rxKind ∧ t.rxPacket = s.rxPacket ∧
    t.silence = s.silence ∧ t.stateTimer = s.stateTimer ∧ t.loopbackPending = s.loopbackPending ∧
    t.tickCount = s.tickCount ∧ t.msgCount = s.msgCount ∧ t.errCount = s.errCount ∧
    t.overrunCount = s.overrunCount ∧ t.role = s.role ∧ t.stationAddress = s.stationAddress ∧
    t.input = s.input ∧ t.params = s.params ∧
    (i ≠ .start → t.running = s.running ∧ t.pendingEvent = s.pendingEvent)

/-! # The byte input -/

/-- RX_BYTE (43_engine.md R221, 46_host.md R333): with fewer than 256 bytes held the byte is stored at index
`rx_count`, and every other index reads as before; the 257th byte is discarded. In both cases the silence timer
restarts and RX_ARM is emitted. An over-long frame decodes to NONE. -/
def Obligations.ReceivedByteIsStoredAndRearms : Prop :=
  ∀ (s : State) (b : Byte), s.rxBuf.wf = true →
    (s.rxCount.toNat < 256 → ∃ buf,
      exec (.rxByte b) s = .next
        { s with
          rxBuf := buf, rxCount := s.rxCount + 1#9, silence := ⟨true, s.tickCount, s.params.tSilence⟩,
          actions := s.actions ++ [.rxArm], reply := [] } ∧
      ∀ a, Buffer.read buf a = if a = s.rxCount.toNat then b else s.rxBuf.read a) ∧
    (256 ≤ s.rxCount.toNat →
      exec (.rxByte b) s = .next
        { s with
          silence := ⟨true, s.tickCount, s.params.tSilence⟩, actions := s.actions ++ [.rxArm], reply := [] }) ∧
    (∀ (p : Params) (f : List Byte), 56 < f.length → (decodeFrame p f).1 = .none)

/-- The six wire frames: the bytes of 30_encoding.md R101 to R106 reach the framer in index order (20_memory.md R89),
as RX_BYTE delivers each (43_engine.md R221): those that fit the 256 bytes are stored, every other index reads as
before. That a wire frame is an instruction, and what it does, is the model's choice (log entry 4). -/
def Obligations.WireFrameDeliversItsBytes : Prop :=
  ∀ (s : State) (i : Instr) (bytes : List Byte), wireBytes s.params i = some bytes → s.rxBuf.wf = true →
    s.rxCount.toNat ≤ 256 → ∃ buf,
      exec i s = .next
        { s with
          rxBuf := buf, rxCount := BitVec.ofNat 9 (min (s.rxCount.toNat + bytes.length) 256),
          silence := ⟨true, s.tickCount, s.params.tSilence⟩,
          actions := s.actions ++ List.replicate bytes.length .rxArm, reply := [] } ∧
      ∀ a, Buffer.read buf a =
        if s.rxCount.toNat ≤ a ∧ a < min (s.rxCount.toNat + bytes.length) 256
        then bytes.getD (a - s.rxCount.toNat) 0x00#8 else s.rxBuf.read a

/-! # The tick: what falls due -/

/-- A tick of a stopped bus has no effect (43_engine.md R210, 10_state.md R37). With nothing due, a running bus only
counts (R211, R217). A completed frame that decodes to NONE is dropped, and a pending event or an expired state timer
waits for a later tick (R214, R227). -/
def Obligations.TickWithoutAnEvent : Prop :=
  ∀ s : State,
    (s.running = false → exec .tick s = .next { s with reply := [] }) ∧
    (s.NothingDue → exec .tick s = .next { s with reply := [], tickCount := s.now }) ∧
    (s.GarbageDue →
      exec .tick s = .next
        { s with
          reply := [], tickCount := s.now, rxCount := 0#9, silence := { s.silence with armed := false } })

/-- A tick of a running bus moves the counter by one, modulo 2^32 (43_engine.md R211), and writes no configuration:
the role, the address, `running` (10_state.md R35 to R37), the parameters and the inputs still to come stay, and so
does every byte of the receive buffer (20_memory.md R81). -/
def Obligations.TickCountsAndKeepsTheConfiguration : Prop :=
  ∀ s : State, s.running = true → ∃ t, exec .tick s = .next t ∧ t.tickCount = s.tickCount + 1#32 ∧
    t.role = s.role ∧ t.stationAddress = s.stationAddress ∧ t.running = true ∧ t.params = s.params ∧
    t.input = s.input ∧ t.rxBuf = s.rxBuf ∧ t.reply = []

/-- 43_engine.md R214 in every control state: a decoded frame is recorded and counted, its handler whatever it is. -/
def Obligations.FrameIsRecordedAndCounted : Prop :=
  ∀ (s : State) (k : FrameKind) (p : Packet), s.ReceiveDue k p → ∃ t, exec .tick s = .next t ∧
    t.rxKind = k ∧ t.rxPacket = p ∧ t.msgCount = s.msgCount + 1#32 ∧ t.rxCount = 0#9 ∧ t.silence.armed = false ∧
    t.curState = s.curState ∧
    (k = .error → t.errCount = s.errCount + 1#32) ∧
    (k ≠ .error → k ≠ .nack → t.errCount = s.errCount)

/-- 43_engine.md R213 and R216 in every control state: the completed echo, and a TIMEOUT while an echo is awaited, emit
RX_MODE first of all. After the echo none is awaited and nothing was decoded or counted. -/
def Obligations.EchoAndTimeoutReleaseTheLine : Prop :=
  ∀ s : State,
    (s.EchoDue → ∃ t, exec .tick s = .next t ∧ t.actions = s.actions ++ [.rxMode] ∧ t.loopbackPending = false ∧
      t.rxCount = 0#9 ∧ t.silence.armed = false ∧ t.rxKind = s.rxKind ∧ t.rxPacket = s.rxPacket ∧
      t.msgCount = s.msgCount ∧ t.errCount = s.errCount ∧ t.curState = s.curState ∧ t.channels = s.channels) ∧
    (s.TimeoutDue → s.loopbackPending = true → ∃ t more, exec .tick s = .next t ∧
      t.actions = s.actions ++ .rxMode :: more)

/-- The INIT state's handler (43_engine.md R222), for both roles: the INIT event, which forces the state INIT (R218),
starts the protocol; every other event in INIT is ignored. -/
def Obligations.InitEventStartsTheProtocol : Prop :=
  ∀ s : State,
    (s.PendingDue .init → exec .tick s = .next
      { s.tickPending with
        curState := .init, rxCount := 0#9, silence := { s.silence with armed := false },
        stateTimer := { s.stateTimer with armed := false }, loopbackPending := false, curValid := false,
        pollSub := .sendDelay, selectSub := .sendWaitOrReceiveWait, actions := s.actions ++ [.rxMode, .rxArm],
        pendingEvent := .jumpState, nextState := .idle }) ∧
    (s.curState = .init →
      (s.EchoDue → exec .tick s = .next s.tickEcho) ∧
      (∀ (k : FrameKind) (p : Packet), s.ReceiveDue k p → exec .tick s = .next (s.tickFrame k p)) ∧
      (s.TimeoutDue → exec .tick s = .next s.tickTimeout) ∧
      (s.PendingDue .jumpState → s.nextState = .init → exec .tick s = .next s.tickPending))

/-! # The master -/

/-- 44_master.md R240 to R244: one run of the scheduler. With no channel it posts IDLE; else the next channel of the
round robin is visited and exactly one state is posted, as its lifecycle state says. -/
def Obligations.MasterSchedulerVisitsOneChannel : Prop :=
  ∀ s : State, s.role = .master → s.PendingDue .jumpState → s.nextState = .idle →
    ((∀ i : Fin nCh, s.channel i = none) →
      exec .tick s = .next { s.tickJump with pendingEvent := .jumpState, nextState := .idle }) ∧
    (∀ (r : Fin nCh) (c : Channel), s.advanceRoundRobin = some r → s.channel r = some c →
      (c.state = .init →
        exec .tick s = .next
          { s.tickJump with
            curIndex := r, curValid := true, pendingEvent := .jumpState, nextState := .poll }) ∧
      (c.state = .online → c.outq.items ≠ [] → c.selectActive = true →
          (c.preSelected = false ∨ c.pollActive = false) →
        exec .tick s = .next
          { s.tickJump.setChannel r { c with preSelected := true } with
            curIndex := r, curValid := true, pendingEvent := .jumpState, nextState := .select }) ∧
      (c.state = .online →
          (c.outq.items = [] ∨ c.selectActive = false ∨ (c.preSelected = true ∧ c.pollActive = true)) →
        (c.pollActive = true →
          exec .tick s = .next
            { s.tickJump.setChannel r { c with preSelected := false } with
              curIndex := r, curValid := true, pendingEvent := .jumpState, nextState := .poll }) ∧
        (c.pollActive = false → c.resync.Elapsed s.now →
          exec .tick s = .next
            { s.tickJump.setChannel r
                { c with preSelected := false, resync := ⟨true, s.now, s.params.tResyncOnline⟩ } with
              curIndex := r, curValid := true, pendingEvent := .jumpState, nextState := .poll }) ∧
        (c.pollActive = false → ¬ c.resync.Elapsed s.now →
          exec .tick s = .next
            { s.tickJump.setChannel r { c with preSelected := false } with
              curIndex := r, curValid := true, pendingEvent := .jumpState, nextState := .idle })) ∧
      (c.state = .offline → c.resync.Elapsed s.now →
        exec .tick s = .next
          { s.tickJump.setChannel r { c with resync := ⟨true, s.now, s.params.tResyncOffline⟩ } with
            curIndex := r, curValid := true, pendingEvent := .jumpState, nextState := .poll }) ∧
      (c.state = .offline → ¬ c.resync.Elapsed s.now →
        exec .tick s = .next
          { s.tickJump with
            curIndex := r, curValid := true, pendingEvent := .jumpState, nextState := .idle }))

/-- 44_master.md R246, R247, R248, R255: entering POLL builds the POLL frame of the current channel and arms the guard
delay; the POLL goes out and its echo is awaited; the echo is complete and the reply is awaited; the ACK or NACK goes
out and the reply is awaited again. -/
def Obligations.MasterPollTransmits : Prop :=
  ∀ s : State, s.role = .master →
    (∀ c : Channel, s.PendingDue .jumpState → s.nextState = .poll → s.curState ≠ .poll →
        s.channel s.curIndex = some c →
      exec .tick s = .next
        { s.tickJump with
          pollSub := .sendDelay, txBuf := s.txBuf.writeFrom 0 [s.params.ccEot, c.address, s.params.ccPoll],
          txLen := 3#9, stateTimer := ⟨true, s.now, s.params.tSendDelay⟩ }) ∧
    (s.curState = .poll → s.pollSub = .sendDelay → s.TimeoutDue →
      exec .tick s = .next
        { s.tickTimeout with
          actions := s.tickTimeout.actions ++ [.txMode, .transmit s.txFrame], loopbackPending := true,
          stateTimer := ⟨true, s.now, s.params.tLoopback⟩, pollSub := .sendWait }) ∧
    (s.curState = .poll → s.pollSub = .sendWait → s.EchoDue →
      exec .tick s = .next
        { s.tickEcho with stateTimer := ⟨true, s.now, s.params.tReply⟩, pollSub := .replyWait }) ∧
    (s.curState = .poll → s.pollSub = .sendAckDelay → s.TimeoutDue →
      exec .tick s = .next
        { s.tickTimeout with
          actions := s.tickTimeout.actions ++ [.txMode, .transmit s.txFrame], loopbackPending := true,
          stateTimer := ⟨true, s.now, s.params.tReply⟩, pollSub := .replyWait })

/-- 44_master.md R254, and R249 with the same pseudocode: the poll is counted as unanswered, and the third consecutive
one takes the channel OFFLINE. -/
def Obligations.MasterCountsAnUnansweredPoll : Prop :=
  ∀ (s : State) (c : Channel) (n : Byte), s.role = .master → s.curState = .poll → s.TimeoutDue →
    (s.pollSub = .sendWait ∨ s.pollSub = .replyWait) → s.channel s.curIndex = some c →
    n.toNat = min (c.notRespond.toNat + 1) 255 →
    (n.toNat < 3 →
      exec .tick s = .next
        { s.tickTimeout.setChannel s.curIndex { c with notRespond := n } with
          pendingEvent := .jumpState, nextState := .idle }) ∧
    (3 ≤ n.toNat →
      exec .tick s = .next
        { s.tickTimeout.setChannel s.curIndex
            { c with
              notRespond := n, state := .offline,
              resync := if c.state = .offline then c.resync else ⟨true, s.now, s.params.tResyncOffline⟩ } with
          pendingEvent := .jumpState, nextState := .idle })

/-- 44_master.md R250: an EOT answers the poll; the channel is ONLINE and the exchange ends. R253: a frame with a bad
block check is answered with NACK, whatever its address. -/
def Obligations.MasterTakesAnEotOrADamagedFrame : Prop :=
  ∀ (s : State) (p : Packet), s.role = .master → s.curState = .poll → s.pollSub = .replyWait →
    (∀ c : Channel, s.ReceiveDue .eot p → s.channel s.curIndex = some c →
      exec .tick s = .next
        { (s.tickFrame .eot p).setChannel s.curIndex
            { c with
              notRespond := 0#8, state := .online,
              resync :=
                if c.state = .online then c.resync
                else if c.pollActive then { c.resync with armed := false }
                else ⟨true, s.now, s.params.tResyncOnline⟩ } with
          pendingEvent := .jumpState, nextState := .idle }) ∧
    (s.ReceiveDue .error p →
      exec .tick s = .next
        { s.tickFrame .error p with
          txBuf := s.txBuf.writeFrom 0 [s.params.ccNack], txLen := 1#9,
          stateTimer := ⟨true, s.now, s.params.tAckDelay⟩, pollSub := .sendAckDelay })

/-- 44_master.md R251, R252: a RESPOND of the polled station brings the channel ONLINE and is answered with ACK; its
packet is queued, or dropped and counted where the inbound queue is full. A RESPOND of another station is ignored
(R256). -/
def Obligations.MasterTakesARespond : Prop :=
  ∀ (s : State) (c c' : Channel) (p : Packet), s.role = .master → s.curState = .poll → s.pollSub = .replyWait →
    s.ReceiveDue .respond p → s.channel s.curIndex = some c →
    c' = { c with
            notRespond := 0#8, state := .online,
            resync :=
              if c.state = .online then c.resync
              else if c.pollActive then { c.resync with armed := false }
              else ⟨true, s.now, s.params.tResyncOnline⟩ } →
    (addrOk c.address p.address = true → c.inq.items.length ≠ c.inq.cap.toNat →
      exec .tick s = .next
        { (s.tickFrame .respond p).setChannel s.curIndex
            { c' with inq := { c.inq with items := c.inq.items ++ [p] } } with
          txBuf := s.txBuf.writeFrom 0 [s.params.ccAck], txLen := 1#9,
          stateTimer := ⟨true, s.now, s.params.tAckDelay⟩, pollSub := .sendAckDelay }) ∧
    (addrOk c.address p.address = true → c.inq.items.length = c.inq.cap.toNat →
      exec .tick s = .next
        { (s.tickFrame .respond p).setChannel s.curIndex c' with
          overrunCount := s.overrunCount + 1#32, txBuf := s.txBuf.writeFrom 0 [s.params.ccAck], txLen := 1#9,
          stateTimer := ⟨true, s.now, s.params.tAckDelay⟩, pollSub := .sendAckDelay }) ∧
    (addrOk c.address p.address = false → exec .tick s = .next (s.tickFrame .respond p))

/-- 44_master.md R258: entering SELECT takes the packet at the head of the outbound queue, builds its SELECT frame and
transmits it at once; with an empty queue nothing is transmitted and IDLE is posted. -/
def Obligations.MasterSelectEntryTransmits : Prop :=
  ∀ (s : State) (c : Channel), s.role = .master → s.PendingDue .jumpState → s.nextState = .select →
    s.curState ≠ .select → s.channel s.curIndex = some c →
    (∀ (q : Packet) (rest : List Packet), c.outq.items = q :: rest → q.payload.length ≤ 50 → s.txBuf.wf = true →
      exec .tick s = .next
        { s.tickJump.setChannel s.curIndex { c with outq := { c.outq with items := rest }, retry := 0#8 } with
          txPacket := q, txBuf := s.txBuf.writeFrom 0 (selectBytes s.params q),
          txLen := BitVec.ofNat 9 (q.payload.length + 6),
          actions := s.actions ++ [.txMode, .transmit (selectBytes s.params q)], loopbackPending := true,
          stateTimer := ⟨true, s.now, s.params.tLoopback⟩, selectSub := .sendWaitOrReceiveWait }) ∧
    (c.outq.items = [] →
      exec .tick s = .next { s.tickJump with pendingEvent := .jumpState, nextState := .idle })

/-- 44_master.md R259, R260, R261, R264: the echo of the SELECT is complete; the ACK ends the exchange; a TIMEOUT ends
it with an overrun counted, in either sub-state. -/
def Obligations.MasterSelectEnds : Prop :=
  ∀ s : State, s.role = .master → s.curState = .select →
    (s.EchoDue → s.selectSub = .sendWaitOrReceiveWait →
      exec .tick s = .next
        { s.tickEcho with
          stateTimer := ⟨true, s.now, s.params.tReply⟩, selectSub := .replyAckWaitOrSendAckDelay }) ∧
    (∀ p : Packet, s.ReceiveDue .ack p → s.selectSub = .replyAckWaitOrSendAckDelay →
      exec .tick s = .next { s.tickFrame .ack p with pendingEvent := .jumpState, nextState := .idle }) ∧
    (s.TimeoutDue →
      exec .tick s = .next
        { s.tickTimeout with
          overrunCount := s.overrunCount + 1#32, pendingEvent := .jumpState, nextState := .idle })

/-- 44_master.md R262: a NACK is counted; below the retry limit the frame still in the transmit buffer is sent again,
at the limit the exchange is given up. -/
def Obligations.MasterSelectRetriesOnNack : Prop :=
  ∀ (s : State) (c : Channel) (p : Packet), s.role = .master → s.curState = .select →
    s.selectSub = .replyAckWaitOrSendAckDelay → s.ReceiveDue .nack p → s.channel s.curIndex = some c →
    (c.retry.toNat < 3 →
      exec .tick s = .next
        { (s.tickFrame .nack p).setChannel s.curIndex { c with retry := c.retry + 1#8 } with
          errCount := s.errCount + 1#32, actions := s.actions ++ [.txMode, .transmit s.txFrame],
          loopbackPending := true, stateTimer := ⟨true, s.now, s.params.tLoopback⟩,
          selectSub := .sendWaitOrReceiveWait }) ∧
    (3 ≤ c.retry.toNat →
      exec .tick s = .next
        { s.tickFrame .nack p with
          errCount := s.errCount + 1#32, pendingEvent := .jumpState, nextState := .idle })

/-- The events a master ignores (44_master.md R245, R256, R263; 43_engine.md R222): nothing moves beyond what the
derivation of the event did (00_scope.md R13). -/
def Obligations.MasterIgnoresEveryOtherEvent : Prop :=
  ∀ s : State, s.role = .master →
    (s.EchoDue → ¬ (s.curState = .poll ∧ s.pollSub = .sendWait) →
        ¬ (s.curState = .select ∧ s.selectSub = .sendWaitOrReceiveWait) →
      exec .tick s = .next s.tickEcho) ∧
    (∀ (k : FrameKind) (p : Packet), s.ReceiveDue k p →
        ¬ (s.curState = .poll ∧ s.pollSub = .replyWait ∧ (k = .eot ∨ k = .respond ∨ k = .error)) →
        ¬ (s.curState = .select ∧ s.selectSub = .replyAckWaitOrSendAckDelay ∧ (k = .ack ∨ k = .nack)) →
      exec .tick s = .next (s.tickFrame k p)) ∧
    (s.TimeoutDue → s.curState = .init ∨ s.curState = .idle → exec .tick s = .next s.tickTimeout) ∧
    (s.PendingDue .jumpState → s.nextState = s.curState → s.curState = .poll ∨ s.curState = .select →
      exec .tick s = .next s.tickPending)

/-! # The slave -/

/-- 45_slave.md R280: without slot 0 the slave waits in IDLE; with it the re-sync deadline is armed and SELECT is
posted. R282: entering SELECT mirrors that deadline into the state timer, unless the channel is OFFLINE. -/
def Obligations.SlaveGoesToSelect : Prop :=
  ∀ s : State, s.role = .slave → s.PendingDue .jumpState →
    (s.nextState = .idle → s.channel 0 = none →
      exec .tick s = .next { s.tickJump with pendingEvent := .jumpState, nextState := .idle }) ∧
    (∀ c : Channel, s.nextState = .idle → s.channel 0 = some c →
      exec .tick s = .next
        { s.tickJump.setChannel 0 { c with resync := ⟨true, s.now, s.params.tResyncOnline⟩ } with
          curIndex := 0, curValid := true, pendingEvent := .jumpState, nextState := .select }) ∧
    (∀ c : Channel, s.nextState = .select → s.curState ≠ .select → s.channel 0 = some c →
      exec .tick s = .next
        { s.tickJump with
          selectSub := .sendWaitOrReceiveWait,
          stateTimer :=
            if c.state ≠ .offline ∧ c.resync.armed = true then c.resync else { s.stateTimer with armed := false } })

/-- 45_slave.md R283, R284: a POLL of this station brings the channel ONLINE, restarts its deadline and posts POLL;
any other POLL is observed only. R288: a frame with a bad block check for this station is answered with NACK; any
other is ignored. -/
def Obligations.SlaveAnswersItsOwnPollOrDamagedFrame : Prop :=
  ∀ (s : State) (p : Packet), s.role = .slave → s.curState = .select → s.selectSub = .sendWaitOrReceiveWait →
    (∀ c : Channel, s.ReceiveDue .poll p → s.channel 0 = some c → addrOk s.stationAddress p.address = true →
        isReply s.stationAddress p.address = true →
      exec .tick s = .next
        { (s.tickFrame .poll p).setChannel 0
            { c with state := .online, resync := ⟨true, s.now, s.params.tResyncOnline⟩ } with
          pendingEvent := .jumpState, nextState := .poll }) ∧
    (s.ReceiveDue .error p → addrOk s.stationAddress p.address = true →
        isReply s.stationAddress p.address = true →
      exec .tick s = .next
        { s.tickFrame .error p with
          txBuf := s.txBuf.writeFrom 0 [s.params.ccNack], txLen := 1#9,
          stateTimer := ⟨true, s.now, s.params.tAckDelay⟩, selectSub := .replyAckWaitOrSendAckDelay }) ∧
    (∀ k : FrameKind, k = .poll ∨ k = .error → s.ReceiveDue k p →
        addrOk s.stationAddress p.address = false ∨ isReply s.stationAddress p.address = false →
      exec .tick s = .next (s.tickFrame k p))

/-- 45_slave.md R285, R286, R287: a SELECT for this station is queued, or dropped and counted where the inbound queue
is full; where `is_reply` holds an ACK is prepared, else nothing more happens. A SELECT for another station is ignored
(R291). -/
def Obligations.SlaveTakesASelect : Prop :=
  ∀ (s u : State) (c : Channel) (p : Packet), s.role = .slave → s.curState = .select →
    s.selectSub = .sendWaitOrReceiveWait → s.ReceiveDue .select p → s.channel 0 = some c →
    u = (if c.inq.items.length = c.inq.cap.toNat
          then { s.tickFrame .select p with overrunCount := s.overrunCount + 1#32 }
          else (s.tickFrame .select p).setChannel 0
            { c with inq := { c.inq with items := c.inq.items ++ [p] } }) →
    (addrOk s.stationAddress p.address = true → isReply s.stationAddress p.address = true →
      exec .tick s = .next
        { u with
          txBuf := s.txBuf.writeFrom 0 [s.params.ccAck], txLen := 1#9,
          stateTimer := ⟨true, s.now, s.params.tAckDelay⟩, selectSub := .replyAckWaitOrSendAckDelay }) ∧
    (addrOk s.stationAddress p.address = true → isReply s.stationAddress p.address = false →
      exec .tick s = .next u) ∧
    (addrOk s.stationAddress p.address = false → exec .tick s = .next (s.tickFrame .select p))

/-- 45_slave.md R289, R290: the deadline elapsed and the channel goes OFFLINE; the ACK or NACK goes out and the
deadline is mirrored again. -/
def Obligations.SlaveSelectTimeouts : Prop :=
  ∀ (s : State) (c : Channel), s.role = .slave → s.curState = .select → s.TimeoutDue → s.channel 0 = some c →
    (s.selectSub = .sendWaitOrReceiveWait →
      exec .tick s = .next
        (s.tickTimeout.setChannel 0
          { c with
            state := .offline,
            resync := if c.state = .offline then c.resync else ⟨true, s.now, s.params.tResyncOffline⟩ })) ∧
    (s.selectSub = .replyAckWaitOrSendAckDelay →
      exec .tick s = .next
        { s.tickTimeout with
          actions := s.tickTimeout.actions ++ [.txMode, .transmit s.txFrame], loopbackPending := true,
          selectSub := .sendWaitOrReceiveWait,
          stateTimer :=
            if c.state ≠ .offline ∧ c.resync.armed = true then c.resync else { s.stateTimer with armed := false } })

/-- 45_slave.md R292, R293: entering POLL takes the packet at the head of the outbound queue and builds its RESPOND,
or builds an EOT where there is none or the channel is not poll-active. -/
def Obligations.SlavePollEntryBuildsTheAnswer : Prop :=
  ∀ (s : State) (c : Channel), s.role = .slave → s.PendingDue .jumpState → s.nextState = .poll →
    s.curState ≠ .poll → s.channel 0 = some c →
    (∀ (q : Packet) (rest : List Packet), c.outq.items = q :: rest → c.pollActive = true →
      exec .tick s = .next
        { s.tickJump.setChannel 0 { c with outq := { c.outq with items := rest }, retry := 0#8 } with
          txPacket := q, txBuf := s.txBuf.writeFrom 0 (respondBytes s.params q),
          txLen := BitVec.ofNat 9 (q.payload.length + 5), pollSub := .sendDelay,
          stateTimer := ⟨true, s.now, s.params.tSendDelay⟩ }) ∧
    (c.outq.items = [] ∨ c.pollActive = false →
      exec .tick s = .next
        { s.tickJump with
          txBuf := s.txBuf.writeFrom 0 [s.params.ccEot], txLen := 1#9, pollSub := .sendDelay,
          stateTimer := ⟨true, s.now, s.params.tSendDelay⟩ })

/-- 45_slave.md R294, R301, R295, R296: the prepared frame goes out and its echo is awaited; the echo of a RESPOND is
complete and the reply is awaited; the echo of the one-byte EOT ends the exchange. -/
def Obligations.SlavePollTransmits : Prop :=
  ∀ s : State, s.role = .slave → s.curState = .poll →
    (s.TimeoutDue → s.pollSub = .sendDelay ∨ s.pollSub = .sendAckDelay →
      exec .tick s = .next
        { s.tickTimeout with
          actions := s.tickTimeout.actions ++ [.txMode, .transmit s.txFrame], loopbackPending := true,
          stateTimer := ⟨true, s.now, s.params.tLoopback⟩, pollSub := .sendWait }) ∧
    (s.EchoDue → s.pollSub = .sendWait → 1 < s.txLen.toNat →
      exec .tick s = .next
        { s.tickEcho with stateTimer := ⟨true, s.now, s.params.tReply⟩, pollSub := .replyWait }) ∧
    (s.EchoDue → s.pollSub = .sendWait → s.txLen.toNat = 1 →
      exec .tick s = .next { s.tickEcho with pendingEvent := .jumpState, nextState := .select })

/-- 45_slave.md R297, R298: an ACK is followed by the closing EOT; a NACK is counted, and the RESPOND is sent again
below the retry limit, given up with the closing EOT at it. -/
def Obligations.SlavePollTakesAckAndNack : Prop :=
  ∀ (s : State) (c : Channel) (p : Packet), s.role = .slave → s.curState = .poll → s.pollSub = .replyWait →
    s.channel 0 = some c →
    (s.ReceiveDue .ack p →
      exec .tick s = .next
        { (s.tickFrame .ack p).setChannel 0 { c with notRespond := 0#8 } with
          txBuf := s.txBuf.writeFrom 0 [s.params.ccEot], txLen := 1#9,
          stateTimer := ⟨true, s.now, s.params.tAckDelay⟩, pollSub := .sendAckDelay }) ∧
    (s.ReceiveDue .nack p → c.retry.toNat < 3 →
      exec .tick s = .next
        { (s.tickFrame .nack p).setChannel 0 { c with notRespond := 0#8, retry := c.retry + 1#8 } with
          errCount := s.errCount + 1#32, stateTimer := ⟨true, s.now, s.params.tSendDelay⟩,
          pollSub := .sendDelay }) ∧
    (s.ReceiveDue .nack p → 3 ≤ c.retry.toNat →
      exec .tick s = .next
        { (s.tickFrame .nack p).setChannel 0 { c with notRespond := 0#8 } with
          errCount := s.errCount + 1#32, txBuf := s.txBuf.writeFrom 0 [s.params.ccEot], txLen := 1#9,
          stateTimer := ⟨true, s.now, s.params.tAckDelay⟩, pollSub := .sendAckDelay })

/-- 45_slave.md R299, R300, R302: the exchange is broken off and SELECT posted, by a POLL, SELECT or RESPOND, by a
missing answer (counted), and by a missing echo. -/
def Obligations.SlavePollBreaksOff : Prop :=
  ∀ s : State, s.role = .slave → s.curState = .poll →
    (∀ (k : FrameKind) (p : Packet), s.pollSub = .replyWait → k = .poll ∨ k = .select ∨ k = .respond →
        s.ReceiveDue k p →
      exec .tick s = .next { s.tickFrame k p with pendingEvent := .jumpState, nextState := .select }) ∧
    (∀ (c : Channel) (n : Byte), s.pollSub = .replyWait → s.TimeoutDue → s.channel 0 = some c →
        n.toNat = min (c.notRespond.toNat + 1) 255 →
      exec .tick s = .next
        { s.tickTimeout.setChannel 0 { c with notRespond := n } with
          pendingEvent := .jumpState, nextState := .select }) ∧
    (s.pollSub = .sendWait → s.TimeoutDue →
      exec .tick s = .next { s.tickTimeout with pendingEvent := .jumpState, nextState := .select })

/-- The events a slave ignores (45_slave.md R280, R291, R303; 43_engine.md R222): nothing moves beyond what the
derivation of the event did (00_scope.md R13). -/
def Obligations.SlaveIgnoresEveryOtherEvent : Prop :=
  ∀ s : State, s.role = .slave →
    (s.EchoDue → ¬ (s.curState = .poll ∧ s.pollSub = .sendWait) → exec .tick s = .next s.tickEcho) ∧
    (∀ (k : FrameKind) (p : Packet), s.ReceiveDue k p →
        ¬ (s.curState = .select ∧ s.selectSub = .sendWaitOrReceiveWait ∧
            (k = .poll ∨ k = .select ∨ k = .error)) →
        ¬ (s.curState = .poll ∧ s.pollSub = .replyWait ∧
            (k = .ack ∨ k = .nack ∨ k = .poll ∨ k = .select ∨ k = .respond)) →
      exec .tick s = .next (s.tickFrame k p)) ∧
    (s.TimeoutDue → s.curState = .init ∨ s.curState = .idle → exec .tick s = .next s.tickTimeout) ∧
    (s.PendingDue .jumpState → s.nextState = s.curState → s.curState = .poll ∨ s.curState = .select →
      exec .tick s = .next s.tickPending)

/-! # Invariants of every step -/

/-- Both buffers keep their canonical form, and the framer keeps its bounds: at most 256 bytes are held (10_state.md
R41), and the silence timer is armed exactly while at least one is (43_engine.md R212). -/
def Obligations.EveryStepKeepsTheBuffers : Prop :=
  ∀ s t : State, s.BuffersOk → s.FramerOk → step s = .next t → t.BuffersOk ∧ t.FramerOk

/-- The storage bounds: payloads of at most 50 bytes (20_memory.md R83), queues of a legal capacity with at most that
many packets (R84), retry counters of at most 3 (10_state.md R61), a transmit frame of at most 56 bytes. -/
def Obligations.EveryStepKeepsTheStorageBounds : Prop :=
  ∀ s t : State, s.PacketsOk → step s = .next t → t.PacketsOk

/-- The control state stays sound: an exchange always has its channel, the state timer never runs in INIT and IDLE,
and a running block is never stuck (60_exceptions.md R363, 42_registry.md R182, 44_master.md R245, R258). -/
def Obligations.EveryStepKeepsTheControlState : Prop :=
  ∀ s t : State, s.ControlOk → step s = .next t → t.ControlOk

/-- While an echo is awaited, the last direction action was TX_MODE (43_engine.md R213, R216, R223). -/
def Obligations.EveryStepKeepsTheLineDirection : Prop :=
  ∀ s t : State, s.LineOk → step s = .next t → t.LineOk

/-- The state after reset has every invariant. -/
def Obligations.ResetHasTheInvariants : Prop := State.reset.Inv

/-- Slots are stable (42_registry.md R181; 10_state.md R55 to R59, R64): no step but INIT's frees a slot, changes its
address, its role flags or a capacity, or takes its lifecycle back to INIT. -/
def Obligations.SlotsAreStable : Prop :=
  ∀ (i : Instr) (s t : State) (j : Fin nCh) (c : Channel), isInit i = false → exec i s = .next t →
    s.channel j = some c →
    ∃ d, t.channel j = some d ∧ d.address = c.address ∧ d.pollActive = c.pollActive ∧
      d.selectActive = c.selectActive ∧ d.outq.cap = c.outq.cap ∧ d.inq.cap = c.inq.cap ∧
      (d.state = .init → c.state = .init)

/-- Queues are first in, first out, with one producer and one consumer each (20_memory.md R88, R95): a step leaves a
queue alone, appends one packet, or removes the head; SEND alone fills an outbound queue and a tick alone empties it,
a tick alone fills an inbound queue and RECEIVE alone empties it. -/
def Obligations.QueuesHaveOneProducerAndOneConsumer : Prop :=
  ∀ (i : Instr) (s t : State) (j : Fin nCh) (c d : Channel), isInit i = false → exec i s = .next t →
    s.channel j = some c → t.channel j = some d →
    (d.outq.items = c.outq.items ∨
      (∃ id o payload q, i = .send id o payload ∧ d.outq.items = c.outq.items ++ [q]) ∨
      (i = .tick ∧ ∃ q, c.outq.items = q :: d.outq.items)) ∧
    (d.inq.items = c.inq.items ∨
      (i = .tick ∧ ∃ q, d.inq.items = c.inq.items ++ [q]) ∨
      (∃ id q, i = .receive id ∧ c.inq.items = q :: d.inq.items))

/-- No rule reads a buffer byte beyond the frame (10_state.md R76): two sound states that differ in such bytes only
step to states that differ in such bytes only. Whatever the unspecified bytes are, the run is the same. -/
def Obligations.UnreadBufferBytesAreNeverSeen : Prop :=
  ∀ s u t v : State, s.Inv → u.Inv → s.SameBut u → step s = .next t → step u = .next v → t.SameBut v

/-! # Operations -/

/-- The address validator (41_address.md R170, R173, R174, R176), and the two results that the state machine reads:
`addr_ok` of R175 and `is_reply`. -/
def Obligations.ValidatorLaws : Prop :=
  (∀ own peer : Byte,
    validate own peer =
      { deviceTypeMatch := decide (own.extractLsb' 4 2 = peer.extractLsb' 4 2),
        physicalAddressMatch := decide (own.extractLsb' 0 3 = peer.extractLsb' 0 3),
        isReply := decide (own.getLsbD 3 = peer.getLsbD 3) } ∧
    validate own peer = validate peer own ∧
    addrOk own peer = ((validate own peer).deviceTypeMatch && (validate own peer).physicalAddressMatch) ∧
    isReply own peer = (validate own peer).isReply) ∧
  (∀ a : Byte, validate a a = ⟨true, true, true⟩ ∧ validate a (a ^^^ 0x08#8) = ⟨true, true, false⟩) ∧
  (∀ (own : Byte) (top : BitVec 2), validate own (top ++ own.extractLsb' 0 6) = ⟨true, true, true⟩)

/-- The round robin (42_registry.md R183): from none it scans from slot 0, else from the slot after the current one,
32 slots, wrapping; it answers the first occupied slot, and none exactly where no slot is occupied. -/
def Obligations.RoundRobinFindsTheNextOccupiedSlot : Prop :=
  ∀ (s : State) (start : Nat), start = (if s.curValid = true then s.curIndex.val + 1 else 0) →
    (s.advanceRoundRobin = none ↔ ∀ i : Fin nCh, s.channel i = none) ∧
    (∀ j : Fin nCh, s.advanceRoundRobin = some j ↔
      ∃ k, k < 32 ∧ j.val = (start + k) % 32 ∧ (s.channel j).isSome = true ∧
        ∀ m, m < k → ∀ i : Fin nCh, i.val = (start + m) % 32 → s.channel i = none)

/-- Timers (42_registry.md R190 to R192): a timer armed when the counter is `now` is expired after `d` more ticks, for
every `d` below 2^32, exactly where `d` has reached the interval, across the wrap of the counter; a disarmed timer is
never expired and keeps its start and interval. -/
def Obligations.TimersExpireAtTheirInterval : Prop :=
  (∀ (now interval : Word) (d : Nat), d < 2 ^ 32 →
    ((armTimer now interval).expired (now + BitVec.ofNat 32 d) = true ↔ interval.toNat ≤ d)) ∧
  (∀ (t : Timer) (now : Word),
    t.disarm.expired now = false ∧ t.disarm.start = t.start ∧ t.disarm.interval = t.interval)

/-- The transmit buffer (20_memory.md R82): a frame written from index 0 reads back as it was written, and every index
above it reads as before. -/
def Obligations.BufferHoldsTheFrameWritten : Prop :=
  ∀ (b : Buffer) (bytes : List Byte), b.wf = true → bytes.length ≤ 256 →
    (b.writeFrom 0 bytes).wf = true ∧ (b.writeFrom 0 bytes).front bytes.length = bytes ∧
    ∀ a, bytes.length ≤ a → (b.writeFrom 0 bytes).read a = b.read a

/-- The direction discipline that 46_host.md R342 derives: from reset, no run emits two TRANSMIT actions without an
RX_MODE between them. It fails: a NACK that completes one tick after the TIMEOUT of a SELECT is retransmitted (R262)
while IDLE is already pending, and the next exchange may transmit before that echo is complete. That the model keeps the
procedures of R258 and R262 there against R342 is its choice; the spec gives no ruling (log entry 7). -/
def Obligations.TransmissionsAreApart : Prop :=
  ∀ (p : Params) (xs : List Strobe), p.Legal →
    transmitsApart false ((State.resetWith p).after xs).actions = true

/-- The direction discipline of 46_host.md R342 wherever its premise, `loopback_pending = 0` at every send, holds: from
every state that the control invariant allows, every step but the entry into SELECT over an awaited echo (44_master.md
R258; log entry 7) emits TX_MODE only where no transmission is open, one TRANSMIT right after it, and RX_MODE before
the next, and a transmission is open after the step exactly while an echo is awaited. INIT, which R342 excepts, emits
nothing and awaits no echo. What the model does at the step left out is its choice (log entry 7). -/
def Obligations.DirectionDisciplineHoldsWhereItsPremiseDoes : Prop :=
  (∀ (i : Instr) (s : State), isInit i = false → (i = .tick → s.PendingOk ∧ ¬ s.SelectOverAnEcho) →
    ∃ t emitted, exec i s = .next t ∧ t.actions = s.actions ++ emitted ∧
      LinePhase.along s.linePhase emitted = some t.linePhase) ∧
  (∀ (r : Role) (a : Byte) (s : State), ∃ t, exec (.init r a) s = .next t ∧ t.actions = s.actions ∧
    t.linePhase = .listening)
end

