-- ==== Sys2Proof/Laws/Buffer.lean ====
section
/-! SUPPORT. The byte buffers: a read after a write gives the byte written, a write leaves every other byte alone, and
every operation keeps the canonical form. -/

namespace Sys2Proof.Machine

/-! ## What one write does to every read -/

theorem Buffer.read_nil (a : Nat) : Buffer.read [] a = unwrittenByte := rfl

theorem Buffer.read_cons (i : Nat) (v : Byte) (rest : Buffer) (a : Nat) :
    Buffer.read ((i, v) :: rest) a = if a = i then v else Buffer.read rest a := rfl

/-- Below the first index of a rising list nothing is listed. -/
theorem Buffer.read_below {lo : Nat} {b : Buffer} (h : Buffer.risingFrom lo b = true) {a : Nat} (ha : a < lo) :
    b.read a = unwrittenByte := by
  induction b generalizing lo with
  | nil => rfl
  | cons cell rest ih =>
    obtain ⟨i, v⟩ := cell
    simp only [Buffer.risingFrom, Bool.and_eq_true, decide_eq_true_eq] at h
    rw [Buffer.read_cons, if_neg (by omega)]
    exact ih h.2 (by omega)

/-- A rising list rises from any lower bound too. -/
theorem Buffer.risingFrom_mono {lo lo' : Nat} {b : Buffer} (h : Buffer.risingFrom lo b = true) (hl : lo' ≤ lo) :
    Buffer.risingFrom lo' b = true := by
  cases b with
  | nil => rfl
  | cons cell rest =>
    obtain ⟨i, v⟩ := cell
    simp only [Buffer.risingFrom, Bool.and_eq_true, decide_eq_true_eq] at h ⊢
    exact ⟨by omega, h.2⟩

/-- A cell put in front of a list that rises from above its index. -/
theorem Buffer.read_consCell {i : Nat} {v : Byte} {rest : Buffer} (h : Buffer.risingFrom (i + 1) rest = true)
    (a : Nat) : Buffer.read (consCell (i, v) rest) a = if a = i then v else rest.read a := by
  unfold consCell
  split
  · next hv =>
    split
    · next ha => subst ha; rw [Buffer.read_below h (by omega)]; exact hv.symm
    · rfl
  · rfl

/-- A read after a write, on a list that rises. -/
theorem Buffer.read_put {lo : Nat} {b : Buffer} (h : Buffer.risingFrom lo b = true) (a : Nat) (v : Byte) (j : Nat) :
    (b.put a v).read j = if j = a then v else b.read j := by
  induction b generalizing lo with
  | nil => exact Buffer.read_consCell rfl j
  | cons cell rest ih =>
    obtain ⟨i, w⟩ := cell
    have h' := h
    simp only [Buffer.risingFrom, Bool.and_eq_true, decide_eq_true_eq] at h
    simp only [Buffer.put]
    split
    · next hlt =>
      refine Buffer.read_consCell ?_ j
      simp only [Buffer.risingFrom, Bool.and_eq_true, decide_eq_true_eq]
      exact ⟨by omega, h.2⟩
    · split
      · next heq =>
        subst heq
        rw [Buffer.read_consCell h.2, Buffer.read_cons]
        split <;> rfl
      · rw [Buffer.read_cons, Buffer.read_cons, ih h.2]
        split
        · next hj => subst hj; rw [if_neg (by omega)]
        · rfl

/-! ## The canonical form is kept -/

theorem Buffer.risingFrom_consCell {lo i : Nat} {v : Byte} {rest : Buffer} (hi : lo ≤ i)
    (h : Buffer.risingFrom (i + 1) rest = true) : Buffer.risingFrom lo (consCell (i, v) rest) = true := by
  unfold consCell
  split
  · exact Buffer.risingFrom_mono h (by omega)
  · simp only [Buffer.risingFrom, Bool.and_eq_true, decide_eq_true_eq]
    exact ⟨hi, h⟩

theorem Buffer.risingFrom_put {lo : Nat} {b : Buffer} (h : Buffer.risingFrom lo b = true) {a : Nat} (ha : lo ≤ a)
    (v : Byte) : Buffer.risingFrom lo (b.put a v) = true := by
  induction b generalizing lo with
  | nil => exact Buffer.risingFrom_consCell ha rfl
  | cons cell rest ih =>
    obtain ⟨i, w⟩ := cell
    simp only [Buffer.risingFrom, Bool.and_eq_true, decide_eq_true_eq] at h
    simp only [Buffer.put]
    split
    · next hlt =>
      refine Buffer.risingFrom_consCell ha ?_
      simp only [Buffer.risingFrom, Bool.and_eq_true, decide_eq_true_eq]
      exact ⟨by omega, h.2⟩
    · split
      · next heq => subst heq; exact Buffer.risingFrom_consCell ha h.2
      · simp only [Buffer.risingFrom, Bool.and_eq_true, decide_eq_true_eq]
        exact ⟨h.1, ih h.2 (by omega)⟩

theorem Buffer.mem_consCell {cell x : Host.Cell} {rest : Buffer} (h : x ∈ consCell cell rest) :
    (x = cell ∧ cell.2 ≠ unwrittenByte) ∨ x ∈ rest := by
  unfold consCell at h
  split at h
  · exact .inr h
  · next hv =>
    rcases List.mem_cons.mp h with rfl | hm
    · exact .inl ⟨rfl, hv⟩
    · exact .inr hm

theorem Buffer.mem_put {b : Buffer} {a : Nat} {v : Byte} {x : Host.Cell} (h : x ∈ b.put a v) :
    (x = (a, v) ∧ v ≠ unwrittenByte) ∨ x ∈ b := by
  induction b with
  | nil => exact Buffer.mem_consCell h
  | cons cell rest ih =>
    obtain ⟨i, w⟩ := cell
    simp only [Buffer.put] at h
    split at h
    · exact Buffer.mem_consCell h
    · split at h
      · rcases Buffer.mem_consCell h with h | h
        · exact .inl h
        · exact .inr (List.mem_cons_of_mem _ h)
      · rcases List.mem_cons.mp h with rfl | h
        · exact .inr List.mem_cons_self
        · rcases ih h with h | h
          · exact .inl h
          · exact .inr (List.mem_cons_of_mem _ h)

theorem Buffer.wf_rising {b : Buffer} (h : b.wf = true) : Buffer.risingFrom 0 b = true := by
  simp only [Buffer.wf, Bool.and_eq_true] at h
  exact h.1

theorem Buffer.wf_nil : Buffer.wf [] = true := rfl

/-- One write keeps the canonical form. -/
theorem Buffer.wf_write {b : Buffer} (h : b.wf = true) (a : Nat) (v : Byte) : (b.write a v).wf = true := by
  unfold Buffer.write
  split
  · next ha =>
    simp only [Buffer.wf, Bool.and_eq_true, List.all_eq_true, decide_eq_true_eq] at h ⊢
    refine ⟨Buffer.risingFrom_put h.1 (Nat.zero_le a) v, fun x hx => ?_⟩
    rcases Buffer.mem_put hx with ⟨rfl, hv⟩ | hx
    · exact ⟨ha, hv⟩
    · exact h.2 x hx
  · exact h

/-- A sequence of writes keeps the canonical form. -/
theorem Buffer.wf_writeFrom {b : Buffer} (h : b.wf = true) (a : Nat) (vs : List Byte) :
    (b.writeFrom a vs).wf = true := by
  induction vs generalizing b a with
  | nil => exact h
  | cons v vs ih => exact ih (Buffer.wf_write h a v) (a + 1)

/-! ## Reads after writes -/

/-- A read after one write within the buffer. -/
theorem Buffer.read_write {b : Buffer} (h : b.wf = true) {a : Nat} (ha : a < maxFrame) (v : Byte) (j : Nat) :
    (b.write a v).read j = if j = a then v else b.read j := by
  rw [Buffer.write, if_pos ha]
  exact Buffer.read_put (Buffer.wf_rising h) a v j

/-- A read after a sequence of writes within the buffer. -/
theorem Buffer.read_writeFrom {b : Buffer} (h : b.wf = true) {a : Nat} (vs : List Byte)
    (ha : a + vs.length ≤ maxFrame) (j : Nat) :
    (b.writeFrom a vs).read j =
      if a ≤ j ∧ j < a + vs.length then vs.getD (j - a) unwrittenByte else b.read j := by
  induction vs generalizing b a with
  | nil => rw [if_neg (by simp only [List.length_nil]; omega)]; rfl
  | cons v vs ih =>
    simp only [List.length_cons] at ha ⊢
    rw [Buffer.writeFrom, ih (Buffer.wf_write h a v) (by omega), Buffer.read_write h (by omega)]
    by_cases hj : j = a
    · subst hj
      rw [if_neg (by omega), if_pos rfl, if_pos (by omega)]
      simp
    · by_cases hr : a + 1 ≤ j ∧ j < a + 1 + vs.length
      · rw [if_pos hr, if_pos (by omega)]
        obtain ⟨k, rfl⟩ : ∃ k, j = a + 1 + k := ⟨j - (a + 1), by omega⟩
        rw [show a + 1 + k - (a + 1) = k by omega, show a + 1 + k - a = k + 1 by omega]
        simp
      · rw [if_neg hr, if_neg hj, if_neg (by omega)]

/-- The bytes written from index 0 on are what is then at the front. -/
theorem Buffer.front_writeFrom {b : Buffer} (h : b.wf = true) (vs : List Byte) (hl : vs.length ≤ maxFrame) :
    (b.writeFrom 0 vs).front vs.length = vs := by
  apply List.ext_getElem
  · simp [Buffer.front]
  · intro k h1 h2
    simp only [Buffer.front, List.getElem_map, List.getElem_range]
    rw [Buffer.read_writeFrom h vs (by omega), if_pos (by omega)]
    simp [h2]

@[simp] theorem Buffer.front_length (b : Buffer) (n : Nat) : (b.front n).length = n := by simp [Buffer.front]

/-- One more byte at the front. -/
theorem Buffer.front_succ (b : Buffer) (n : Nat) : b.front (n + 1) = b.front n ++ [b.read n] := by
  simp [Buffer.front, List.range_succ]

/-- Buffers that agree below `n` have the same front. -/
theorem Buffer.front_congr {b b' : Buffer} {n : Nat} (h : ∀ j, j < n → b.read j = b'.read j) :
    b.front n = b'.front n := by
  simp only [Buffer.front]
  exact List.map_congr_left fun j hj => h j (List.mem_range.mp hj)

end Sys2Proof.Machine
end

