-- ==== Sys2Proof/Laws/Channel.lean ====
section
/-! SUPPORT. What the rules on one channel leave alone: the lifecycle transition (42_registry.md R185) and the two
outcomes of a poll (44_master.md R250, R254). -/

namespace Sys2Proof.Machine

variable (s : State) (c : Channel) (new : ChannelState)

@[simp] theorem State.transition_address : (s.transition c new).address = c.address := by
  unfold State.transition; split <;> rfl
@[simp] theorem State.transition_pollActive : (s.transition c new).pollActive = c.pollActive := by
  unfold State.transition; split <;> rfl
@[simp] theorem State.transition_selectActive : (s.transition c new).selectActive = c.selectActive := by
  unfold State.transition; split <;> rfl
@[simp] theorem State.transition_notRespond : (s.transition c new).notRespond = c.notRespond := by
  unfold State.transition; split <;> rfl
@[simp] theorem State.transition_retry : (s.transition c new).retry = c.retry := by
  unfold State.transition; split <;> rfl
@[simp] theorem State.transition_preSelected : (s.transition c new).preSelected = c.preSelected := by
  unfold State.transition; split <;> rfl
@[simp] theorem State.transition_outq : (s.transition c new).outq = c.outq := by
  unfold State.transition; split <;> rfl
@[simp] theorem State.transition_inq : (s.transition c new).inq = c.inq := by
  unfold State.transition; split <;> rfl

/-- The transition always arrives. -/
@[simp] theorem State.transition_state : (s.transition c new).state = new := by
  unfold State.transition
  split
  · next h => exact h
  · rfl

@[simp] theorem State.answeredChannel_address : (s.answeredChannel c).address = c.address := by
  simp [State.answeredChannel]
@[simp] theorem State.answeredChannel_pollActive : (s.answeredChannel c).pollActive = c.pollActive := by
  simp [State.answeredChannel]
@[simp] theorem State.answeredChannel_selectActive : (s.answeredChannel c).selectActive = c.selectActive := by
  simp [State.answeredChannel]
@[simp] theorem State.answeredChannel_notRespond : (s.answeredChannel c).notRespond = 0x00#8 := rfl
@[simp] theorem State.answeredChannel_retry : (s.answeredChannel c).retry = c.retry := by
  simp [State.answeredChannel]
@[simp] theorem State.answeredChannel_preSelected : (s.answeredChannel c).preSelected = c.preSelected := by
  simp [State.answeredChannel]
@[simp] theorem State.answeredChannel_outq : (s.answeredChannel c).outq = c.outq := by
  simp [State.answeredChannel]
@[simp] theorem State.answeredChannel_inq : (s.answeredChannel c).inq = c.inq := by
  simp [State.answeredChannel]
@[simp] theorem State.answeredChannel_state : (s.answeredChannel c).state = .online := by
  simp [State.answeredChannel]

@[simp] theorem State.unansweredChannel_address : (s.unansweredChannel c).address = c.address := by
  unfold State.unansweredChannel; split <;> simp
@[simp] theorem State.unansweredChannel_pollActive : (s.unansweredChannel c).pollActive = c.pollActive := by
  unfold State.unansweredChannel; split <;> simp
@[simp] theorem State.unansweredChannel_selectActive : (s.unansweredChannel c).selectActive = c.selectActive := by
  unfold State.unansweredChannel; split <;> simp
@[simp] theorem State.unansweredChannel_notRespond : (s.unansweredChannel c).notRespond = satInc8 c.notRespond := by
  unfold State.unansweredChannel; split <;> simp
@[simp] theorem State.unansweredChannel_retry : (s.unansweredChannel c).retry = c.retry := by
  unfold State.unansweredChannel; split <;> simp
@[simp] theorem State.unansweredChannel_preSelected : (s.unansweredChannel c).preSelected = c.preSelected := by
  unfold State.unansweredChannel; split <;> simp
@[simp] theorem State.unansweredChannel_outq : (s.unansweredChannel c).outq = c.outq := by
  unfold State.unansweredChannel; split <;> simp
@[simp] theorem State.unansweredChannel_inq : (s.unansweredChannel c).inq = c.inq := by
  unfold State.unansweredChannel; split <;> simp

end Sys2Proof.Machine
end

