-- ==== Sys2Proof/Laws/Codec.lean ====
section
/-! SUPPORT. The block check and the decoder on frames of the two shapes that carry a packet, said once: what
`decodeFrame` answers for every address, opcode, payload, closing byte and check byte. -/

namespace Sys2Proof

theorem xorFold_append (s u : List Byte) : xorFold (s ++ u) = xorFold s ^^^ xorFold u := by
  induction s with
  | nil => simp [xorFold]
  | cons b bs ih => simp [xorFold, ih, BitVec.xor_assoc]

/-- A sequence of at least two bytes has a last but one and a last byte. -/
theorem exists_last_two (l : List Byte) (h : 2 ≤ l.length) : ∃ front x y, l = front ++ [x, y] := by
  induction l with
  | nil => simp at h
  | cons b bs ih =>
    by_cases h2 : 2 ≤ bs.length
    · obtain ⟨front, x, y, rfl⟩ := ih h2
      exact ⟨b :: front, x, y, rfl⟩
    · match bs, h, h2 with
      | [y], _, _ => exact ⟨[], b, y, rfl⟩
      | _ :: _ :: _, _, h2 => simp at h2

/-- A frame of SELECT shape (40_codec.md R150, R154, R157). -/
theorem decodeFrame_selectShape (p : Params) (h : p.CodesDistinct) (a o : Byte) (payload : List Byte) (e b : Byte)
    (hl : payload.length ≤ 50) :
    decodeFrame p (p.ccEot :: ccStx :: a :: o :: (payload ++ [e, b])) =
      if e = p.ccEtx then
        (if bcc ([a, o] ++ payload ++ [e]) = b then .select else .error, ⟨a, o, payload⟩)
      else (.none, emptyPacket 0x00#8) := by
  obtain ⟨-, hae, -, hne, -, -⟩ := h
  have hbody : slice (p.ccEot :: ccStx :: a :: o :: (payload ++ [e, b])) 2 (payload.length + 4) =
      [a, o] ++ payload ++ [e] := by simp [slice, List.take_append]
  have hpay : slice (p.ccEot :: ccStx :: a :: o :: (payload ++ [e, b])) 4 (payload.length + 3) = payload := by
    simp [slice]
  have hlen : (p.ccEot :: ccStx :: a :: o :: (payload ++ [e, b])).length = payload.length + 6 := by simp
  have hetx : (p.ccEot :: ccStx :: a :: o :: (payload ++ [e, b])).getD (payload.length + 4) 0x00#8 = e := by simp
  have hbcc : (p.ccEot :: ccStx :: a :: o :: (payload ++ [e, b])).getD (payload.length + 5) 0x00#8 = b := by simp
  have hfields : frameFields (p.ccEot :: ccStx :: a :: o :: (payload ++ [e, b])) 2 = ⟨a, o, payload⟩ := by
    unfold frameFields
    rw [hlen, show payload.length + 6 - 3 = payload.length + 3 by omega, hpay]
    rfl
  unfold decodeFrame
  rw [List.getD_cons_zero]
  simp only [Ne.symm hae, Ne.symm hne, if_false, if_true]
  unfold decodeEotArm
  dsimp only
  rw [hlen, show payload.length + 6 - 2 = payload.length + 4 by omega,
    show payload.length + 6 - 1 = payload.length + 5 by omega, hetx, hbcc, hbody, hfields]
  by_cases he : e = p.ccEtx
  · rw [if_neg (by omega), if_neg (by omega), if_pos ⟨by omega, rfl, he⟩, if_neg (by omega), if_pos he]
    split <;> rfl
  · rw [if_neg (by omega), if_neg (by omega), if_neg (fun h => he h.2.2), if_neg he]

/-- A frame of RESPOND shape (R150, R155): a bad block check gives NONE. -/
theorem decodeFrame_respondShape (p : Params) (h : p.CodesDistinct) (a o : Byte) (payload : List Byte) (e b : Byte)
    (hl : payload.length ≤ 50) :
    decodeFrame p (ccStx :: a :: o :: (payload ++ [e, b])) =
      if e = p.ccEtx ∧ bcc ([a, o] ++ payload ++ [e]) = b then (.respond, ⟨a, o, payload⟩)
      else (.none, emptyPacket 0x00#8) := by
  obtain ⟨-, -, has, -, hns, hes⟩ := h
  have hbody : slice (ccStx :: a :: o :: (payload ++ [e, b])) 1 (payload.length + 3) = [a, o] ++ payload ++ [e] := by
    simp [slice, List.take_append]
  have hpay : slice (ccStx :: a :: o :: (payload ++ [e, b])) 3 (payload.length + 2) = payload := by
    simp [slice]
  have hlen : (ccStx :: a :: o :: (payload ++ [e, b])).length = payload.length + 5 := by simp
  have hetx : (ccStx :: a :: o :: (payload ++ [e, b])).getD (payload.length + 3) 0x00#8 = e := by simp
  have hbcc : (ccStx :: a :: o :: (payload ++ [e, b])).getD (payload.length + 4) 0x00#8 = b := by simp
  have hfields : frameFields (ccStx :: a :: o :: (payload ++ [e, b])) 1 = ⟨a, o, payload⟩ := by
    unfold frameFields
    rw [hlen, show payload.length + 5 - 3 = payload.length + 2 by omega, hpay]
    rfl
  unfold decodeFrame
  rw [List.getD_cons_zero]
  simp only [Ne.symm has, Ne.symm hns, Ne.symm hes, if_false, if_true]
  unfold decodeStxArm
  dsimp only
  rw [hlen, show payload.length + 5 - 2 = payload.length + 3 by omega,
    show payload.length + 5 - 1 = payload.length + 4 by omega, hetx, hbcc, hbody, hfields]
  by_cases he : e = p.ccEtx
  · rw [if_pos ⟨by omega, he⟩, if_neg (by omega)]
    by_cases hb : bcc ([a, o] ++ payload ++ [e]) = b
    · rw [if_pos hb, if_pos ⟨he, hb⟩]
    · rw [if_neg hb, if_neg (fun h => hb h.2)]
  · rw [if_neg (fun h => he h.2), if_neg (fun h => he h.1)]

end Sys2Proof
end

