-- ==== Sys2Proof/Laws/State.lean ====
section
/-! SUPPORT. The named updates of the state: one lemma per field per update, each true by `rfl`, so that no later proof
unfolds a record update. -/

namespace Sys2Proof.Machine

variable (s : State)

/-! ## `withReply` -/

@[simp] theorem State.withReply_role (r : List Byte) : (s.withReply r).role = s.role := rfl
@[simp] theorem State.withReply_stationAddress (r : List Byte) :
    (s.withReply r).stationAddress = s.stationAddress := rfl
@[simp] theorem State.withReply_running (r : List Byte) : (s.withReply r).running = s.running := rfl
@[simp] theorem State.withReply_tickCount (r : List Byte) : (s.withReply r).tickCount = s.tickCount := rfl
@[simp] theorem State.withReply_silence (r : List Byte) : (s.withReply r).silence = s.silence := rfl
@[simp] theorem State.withReply_stateTimer (r : List Byte) : (s.withReply r).stateTimer = s.stateTimer := rfl
@[simp] theorem State.withReply_rxCount (r : List Byte) : (s.withReply r).rxCount = s.rxCount := rfl
@[simp] theorem State.withReply_rxBuf (r : List Byte) : (s.withReply r).rxBuf = s.rxBuf := rfl
@[simp] theorem State.withReply_loopbackPending (r : List Byte) :
    (s.withReply r).loopbackPending = s.loopbackPending := rfl
@[simp] theorem State.withReply_rxKind (r : List Byte) : (s.withReply r).rxKind = s.rxKind := rfl
@[simp] theorem State.withReply_rxPacket (r : List Byte) : (s.withReply r).rxPacket = s.rxPacket := rfl
@[simp] theorem State.withReply_txLen (r : List Byte) : (s.withReply r).txLen = s.txLen := rfl
@[simp] theorem State.withReply_txBuf (r : List Byte) : (s.withReply r).txBuf = s.txBuf := rfl
@[simp] theorem State.withReply_txPacket (r : List Byte) : (s.withReply r).txPacket = s.txPacket := rfl
@[simp] theorem State.withReply_curState (r : List Byte) : (s.withReply r).curState = s.curState := rfl
@[simp] theorem State.withReply_nextState (r : List Byte) : (s.withReply r).nextState = s.nextState := rfl
@[simp] theorem State.withReply_pollSub (r : List Byte) : (s.withReply r).pollSub = s.pollSub := rfl
@[simp] theorem State.withReply_selectSub (r : List Byte) : (s.withReply r).selectSub = s.selectSub := rfl
@[simp] theorem State.withReply_pendingEvent (r : List Byte) : (s.withReply r).pendingEvent = s.pendingEvent := rfl
@[simp] theorem State.withReply_curIndex (r : List Byte) : (s.withReply r).curIndex = s.curIndex := rfl
@[simp] theorem State.withReply_curValid (r : List Byte) : (s.withReply r).curValid = s.curValid := rfl
@[simp] theorem State.withReply_msgCount (r : List Byte) : (s.withReply r).msgCount = s.msgCount := rfl
@[simp] theorem State.withReply_errCount (r : List Byte) : (s.withReply r).errCount = s.errCount := rfl
@[simp] theorem State.withReply_overrunCount (r : List Byte) : (s.withReply r).overrunCount = s.overrunCount := rfl
@[simp] theorem State.withReply_channels (r : List Byte) : (s.withReply r).channels = s.channels := rfl
@[simp] theorem State.withReply_params (r : List Byte) : (s.withReply r).params = s.params := rfl
@[simp] theorem State.withReply_input (r : List Byte) : (s.withReply r).input = s.input := rfl
@[simp] theorem State.withReply_reply (r : List Byte) : (s.withReply r).reply = r := rfl
@[simp] theorem State.withReply_actions (r : List Byte) : (s.withReply r).actions = s.actions := rfl

/-! ## `emit` -/

@[simp] theorem State.emit_role (a : Action) : (s.emit a).role = s.role := rfl
@[simp] theorem State.emit_stationAddress (a : Action) : (s.emit a).stationAddress = s.stationAddress := rfl
@[simp] theorem State.emit_running (a : Action) : (s.emit a).running = s.running := rfl
@[simp] theorem State.emit_tickCount (a : Action) : (s.emit a).tickCount = s.tickCount := rfl
@[simp] theorem State.emit_silence (a : Action) : (s.emit a).silence = s.silence := rfl
@[simp] theorem State.emit_stateTimer (a : Action) : (s.emit a).stateTimer = s.stateTimer := rfl
@[simp] theorem State.emit_rxCount (a : Action) : (s.emit a).rxCount = s.rxCount := rfl
@[simp] theorem State.emit_rxBuf (a : Action) : (s.emit a).rxBuf = s.rxBuf := rfl
@[simp] theorem State.emit_loopbackPending (a : Action) : (s.emit a).loopbackPending = s.loopbackPending := rfl
@[simp] theorem State.emit_rxKind (a : Action) : (s.emit a).rxKind = s.rxKind := rfl
@[simp] theorem State.emit_rxPacket (a : Action) : (s.emit a).rxPacket = s.rxPacket := rfl
@[simp] theorem State.emit_txLen (a : Action) : (s.emit a).txLen = s.txLen := rfl
@[simp] theorem State.emit_txBuf (a : Action) : (s.emit a).txBuf = s.txBuf := rfl
@[simp] theorem State.emit_txPacket (a : Action) : (s.emit a).txPacket = s.txPacket := rfl
@[simp] theorem State.emit_curState (a : Action) : (s.emit a).curState = s.curState := rfl
@[simp] theorem State.emit_nextState (a : Action) : (s.emit a).nextState = s.nextState := rfl
@[simp] theorem State.emit_pollSub (a : Action) : (s.emit a).pollSub = s.pollSub := rfl
@[simp] theorem State.emit_selectSub (a : Action) : (s.emit a).selectSub = s.selectSub := rfl
@[simp] theorem State.emit_pendingEvent (a : Action) : (s.emit a).pendingEvent = s.pendingEvent := rfl
@[simp] theorem State.emit_curIndex (a : Action) : (s.emit a).curIndex = s.curIndex := rfl
@[simp] theorem State.emit_curValid (a : Action) : (s.emit a).curValid = s.curValid := rfl
@[simp] theorem State.emit_msgCount (a : Action) : (s.emit a).msgCount = s.msgCount := rfl
@[simp] theorem State.emit_errCount (a : Action) : (s.emit a).errCount = s.errCount := rfl
@[simp] theorem State.emit_overrunCount (a : Action) : (s.emit a).overrunCount = s.overrunCount := rfl
@[simp] theorem State.emit_channels (a : Action) : (s.emit a).channels = s.channels := rfl
@[simp] theorem State.emit_params (a : Action) : (s.emit a).params = s.params := rfl
@[simp] theorem State.emit_input (a : Action) : (s.emit a).input = s.input := rfl
@[simp] theorem State.emit_reply (a : Action) : (s.emit a).reply = s.reply := rfl
@[simp] theorem State.emit_actions (a : Action) : (s.emit a).actions = s.actions ++ [a] := rfl

/-! ## `post` -/

@[simp] theorem State.post_role (e : Event) (target : TopState) : (s.post e target).role = s.role := rfl
@[simp] theorem State.post_stationAddress (e : Event) (target : TopState) :
    (s.post e target).stationAddress = s.stationAddress := rfl
@[simp] theorem State.post_running (e : Event) (target : TopState) : (s.post e target).running = s.running := rfl
@[simp] theorem State.post_tickCount (e : Event) (target : TopState) :
    (s.post e target).tickCount = s.tickCount := rfl
@[simp] theorem State.post_silence (e : Event) (target : TopState) : (s.post e target).silence = s.silence := rfl
@[simp] theorem State.post_stateTimer (e : Event) (target : TopState) :
    (s.post e target).stateTimer = s.stateTimer := rfl
@[simp] theorem State.post_rxCount (e : Event) (target : TopState) : (s.post e target).rxCount = s.rxCount := rfl
@[simp] theorem State.post_rxBuf (e : Event) (target : TopState) : (s.post e target).rxBuf = s.rxBuf := rfl
@[simp] theorem State.post_loopbackPending (e : Event) (target : TopState) :
    (s.post e target).loopbackPending = s.loopbackPending := rfl
@[simp] theorem State.post_rxKind (e : Event) (target : TopState) : (s.post e target).rxKind = s.rxKind := rfl
@[simp] theorem State.post_rxPacket (e : Event) (target : TopState) : (s.post e target).rxPacket = s.rxPacket := rfl
@[simp] theorem State.post_txLen (e : Event) (target : TopState) : (s.post e target).txLen = s.txLen := rfl
@[simp] theorem State.post_txBuf (e : Event) (target : TopState) : (s.post e target).txBuf = s.txBuf := rfl
@[simp] theorem State.post_txPacket (e : Event) (target : TopState) : (s.post e target).txPacket = s.txPacket := rfl
@[simp] theorem State.post_curState (e : Event) (target : TopState) : (s.post e target).curState = s.curState := rfl
@[simp] theorem State.post_nextState (e : Event) (target : TopState) : (s.post e target).nextState = target := rfl
@[simp] theorem State.post_pollSub (e : Event) (target : TopState) : (s.post e target).pollSub = s.pollSub := rfl
@[simp] theorem State.post_selectSub (e : Event) (target : TopState) :
    (s.post e target).selectSub = s.selectSub := rfl
@[simp] theorem State.post_pendingEvent (e : Event) (target : TopState) : (s.post e target).pendingEvent = e := rfl
@[simp] theorem State.post_curIndex (e : Event) (target : TopState) : (s.post e target).curIndex = s.curIndex := rfl
@[simp] theorem State.post_curValid (e : Event) (target : TopState) : (s.post e target).curValid = s.curValid := rfl
@[simp] theorem State.post_msgCount (e : Event) (target : TopState) : (s.post e target).msgCount = s.msgCount := rfl
@[simp] theorem State.post_errCount (e : Event) (target : TopState) : (s.post e target).errCount = s.errCount := rfl
@[simp] theorem State.post_overrunCount (e : Event) (target : TopState) :
    (s.post e target).overrunCount = s.overrunCount := rfl
@[simp] theorem State.post_channels (e : Event) (target : TopState) : (s.post e target).channels = s.channels := rfl
@[simp] theorem State.post_params (e : Event) (target : TopState) : (s.post e target).params = s.params := rfl
@[simp] theorem State.post_input (e : Event) (target : TopState) : (s.post e target).input = s.input := rfl
@[simp] theorem State.post_reply (e : Event) (target : TopState) : (s.post e target).reply = s.reply := rfl
@[simp] theorem State.post_actions (e : Event) (target : TopState) : (s.post e target).actions = s.actions := rfl

/-! ## `armStateTimer` -/

@[simp] theorem State.armStateTimer_role (interval : Word) : (s.armStateTimer interval).role = s.role := rfl
@[simp] theorem State.armStateTimer_stationAddress (interval : Word) :
    (s.armStateTimer interval).stationAddress = s.stationAddress := rfl
@[simp] theorem State.armStateTimer_running (interval : Word) : (s.armStateTimer interval).running = s.running := rfl
@[simp] theorem State.armStateTimer_tickCount (interval : Word) :
    (s.armStateTimer interval).tickCount = s.tickCount := rfl
@[simp] theorem State.armStateTimer_silence (interval : Word) : (s.armStateTimer interval).silence = s.silence := rfl
@[simp] theorem State.armStateTimer_stateTimer (interval : Word) :
    (s.armStateTimer interval).stateTimer = armTimer s.tickCount interval := rfl
@[simp] theorem State.armStateTimer_rxCount (interval : Word) : (s.armStateTimer interval).rxCount = s.rxCount := rfl
@[simp] theorem State.armStateTimer_rxBuf (interval : Word) : (s.armStateTimer interval).rxBuf = s.rxBuf := rfl
@[simp] theorem State.armStateTimer_loopbackPending (interval : Word) :
    (s.armStateTimer interval).loopbackPending = s.loopbackPending := rfl
@[simp] theorem State.armStateTimer_rxKind (interval : Word) : (s.armStateTimer interval).rxKind = s.rxKind := rfl
@[simp] theorem State.armStateTimer_rxPacket (interval : Word) :
    (s.armStateTimer interval).rxPacket = s.rxPacket := rfl
@[simp] theorem State.armStateTimer_txLen (interval : Word) : (s.armStateTimer interval).txLen = s.txLen := rfl
@[simp] theorem State.armStateTimer_txBuf (interval : Word) : (s.armStateTimer interval).txBuf = s.txBuf := rfl
@[simp] theorem State.armStateTimer_txPacket (interval : Word) :
    (s.armStateTimer interval).txPacket = s.txPacket := rfl
@[simp] theorem State.armStateTimer_curState (interval : Word) :
    (s.armStateTimer interval).curState = s.curState := rfl
@[simp] theorem State.armStateTimer_nextState (interval : Word) :
    (s.armStateTimer interval).nextState = s.nextState := rfl
@[simp] theorem State.armStateTimer_pollSub (interval : Word) : (s.armStateTimer interval).pollSub = s.pollSub := rfl
@[simp] theorem State.armStateTimer_selectSub (interval : Word) :
    (s.armStateTimer interval).selectSub = s.selectSub := rfl
@[simp] theorem State.armStateTimer_pendingEvent (interval : Word) :
    (s.armStateTimer interval).pendingEvent = s.pendingEvent := rfl
@[simp] theorem State.armStateTimer_curIndex (interval : Word) :
    (s.armStateTimer interval).curIndex = s.curIndex := rfl
@[simp] theorem State.armStateTimer_curValid (interval : Word) :
    (s.armStateTimer interval).curValid = s.curValid := rfl
@[simp] theorem State.armStateTimer_msgCount (interval : Word) :
    (s.armStateTimer interval).msgCount = s.msgCount := rfl
@[simp] theorem State.armStateTimer_errCount (interval : Word) :
    (s.armStateTimer interval).errCount = s.errCount := rfl
@[simp] theorem State.armStateTimer_overrunCount (interval : Word) :
    (s.armStateTimer interval).overrunCount = s.overrunCount := rfl
@[simp] theorem State.armStateTimer_channels (interval : Word) :
    (s.armStateTimer interval).channels = s.channels := rfl
@[simp] theorem State.armStateTimer_params (interval : Word) : (s.armStateTimer interval).params = s.params := rfl
@[simp] theorem State.armStateTimer_input (interval : Word) : (s.armStateTimer interval).input = s.input := rfl
@[simp] theorem State.armStateTimer_reply (interval : Word) : (s.armStateTimer interval).reply = s.reply := rfl
@[simp] theorem State.armStateTimer_actions (interval : Word) : (s.armStateTimer interval).actions = s.actions := rfl

/-! ## `disarmStateTimer` -/

@[simp] theorem State.disarmStateTimer_role : (s.disarmStateTimer).role = s.role := rfl
@[simp] theorem State.disarmStateTimer_stationAddress : (s.disarmStateTimer).stationAddress = s.stationAddress := rfl
@[simp] theorem State.disarmStateTimer_running : (s.disarmStateTimer).running = s.running := rfl
@[simp] theorem State.disarmStateTimer_tickCount : (s.disarmStateTimer).tickCount = s.tickCount := rfl
@[simp] theorem State.disarmStateTimer_silence : (s.disarmStateTimer).silence = s.silence := rfl
@[simp] theorem State.disarmStateTimer_stateTimer : (s.disarmStateTimer).stateTimer = s.stateTimer.disarm := rfl
@[simp] theorem State.disarmStateTimer_rxCount : (s.disarmStateTimer).rxCount = s.rxCount := rfl
@[simp] theorem State.disarmStateTimer_rxBuf : (s.disarmStateTimer).rxBuf = s.rxBuf := rfl
@[simp] theorem State.disarmStateTimer_loopbackPending :
    (s.disarmStateTimer).loopbackPending = s.loopbackPending := rfl
@[simp] theorem State.disarmStateTimer_rxKind : (s.disarmStateTimer).rxKind = s.rxKind := rfl
@[simp] theorem State.disarmStateTimer_rxPacket : (s.disarmStateTimer).rxPacket = s.rxPacket := rfl
@[simp] theorem State.disarmStateTimer_txLen : (s.disarmStateTimer).txLen = s.txLen := rfl
@[simp] theorem State.disarmStateTimer_txBuf : (s.disarmStateTimer).txBuf = s.txBuf := rfl
@[simp] theorem State.disarmStateTimer_txPacket : (s.disarmStateTimer).txPacket = s.txPacket := rfl
@[simp] theorem State.disarmStateTimer_curState : (s.disarmStateTimer).curState = s.curState := rfl
@[simp] theorem State.disarmStateTimer_nextState : (s.disarmStateTimer).nextState = s.nextState := rfl
@[simp] theorem State.disarmStateTimer_pollSub : (s.disarmStateTimer).pollSub = s.pollSub := rfl
@[simp] theorem State.disarmStateTimer_selectSub : (s.disarmStateTimer).selectSub = s.selectSub := rfl
@[simp] theorem State.disarmStateTimer_pendingEvent : (s.disarmStateTimer).pendingEvent = s.pendingEvent := rfl
@[simp] theorem State.disarmStateTimer_curIndex : (s.disarmStateTimer).curIndex = s.curIndex := rfl
@[simp] theorem State.disarmStateTimer_curValid : (s.disarmStateTimer).curValid = s.curValid := rfl
@[simp] theorem State.disarmStateTimer_msgCount : (s.disarmStateTimer).msgCount = s.msgCount := rfl
@[simp] theorem State.disarmStateTimer_errCount : (s.disarmStateTimer).errCount = s.errCount := rfl
@[simp] theorem State.disarmStateTimer_overrunCount : (s.disarmStateTimer).overrunCount = s.overrunCount := rfl
@[simp] theorem State.disarmStateTimer_channels : (s.disarmStateTimer).channels = s.channels := rfl
@[simp] theorem State.disarmStateTimer_params : (s.disarmStateTimer).params = s.params := rfl
@[simp] theorem State.disarmStateTimer_input : (s.disarmStateTimer).input = s.input := rfl
@[simp] theorem State.disarmStateTimer_reply : (s.disarmStateTimer).reply = s.reply := rfl
@[simp] theorem State.disarmStateTimer_actions : (s.disarmStateTimer).actions = s.actions := rfl

/-! ## `loadTx` -/

@[simp] theorem State.loadTx_role (f : Frame) : (s.loadTx f).role = s.role := rfl
@[simp] theorem State.loadTx_stationAddress (f : Frame) : (s.loadTx f).stationAddress = s.stationAddress := rfl
@[simp] theorem State.loadTx_running (f : Frame) : (s.loadTx f).running = s.running := rfl
@[simp] theorem State.loadTx_tickCount (f : Frame) : (s.loadTx f).tickCount = s.tickCount := rfl
@[simp] theorem State.loadTx_silence (f : Frame) : (s.loadTx f).silence = s.silence := rfl
@[simp] theorem State.loadTx_stateTimer (f : Frame) : (s.loadTx f).stateTimer = s.stateTimer := rfl
@[simp] theorem State.loadTx_rxCount (f : Frame) : (s.loadTx f).rxCount = s.rxCount := rfl
@[simp] theorem State.loadTx_rxBuf (f : Frame) : (s.loadTx f).rxBuf = s.rxBuf := rfl
@[simp] theorem State.loadTx_loopbackPending (f : Frame) : (s.loadTx f).loopbackPending = s.loopbackPending := rfl
@[simp] theorem State.loadTx_rxKind (f : Frame) : (s.loadTx f).rxKind = s.rxKind := rfl
@[simp] theorem State.loadTx_rxPacket (f : Frame) : (s.loadTx f).rxPacket = s.rxPacket := rfl
@[simp] theorem State.loadTx_txLen (f : Frame) :
    (s.loadTx f).txLen = BitVec.ofNat 9 (encodeFrame s.params f).length := rfl
@[simp] theorem State.loadTx_txBuf (f : Frame) :
    (s.loadTx f).txBuf = s.txBuf.writeFrom 0 (encodeFrame s.params f) := rfl
@[simp] theorem State.loadTx_txPacket (f : Frame) : (s.loadTx f).txPacket = s.txPacket := rfl
@[simp] theorem State.loadTx_curState (f : Frame) : (s.loadTx f).curState = s.curState := rfl
@[simp] theorem State.loadTx_nextState (f : Frame) : (s.loadTx f).nextState = s.nextState := rfl
@[simp] theorem State.loadTx_pollSub (f : Frame) : (s.loadTx f).pollSub = s.pollSub := rfl
@[simp] theorem State.loadTx_selectSub (f : Frame) : (s.loadTx f).selectSub = s.selectSub := rfl
@[simp] theorem State.loadTx_pendingEvent (f : Frame) : (s.loadTx f).pendingEvent = s.pendingEvent := rfl
@[simp] theorem State.loadTx_curIndex (f : Frame) : (s.loadTx f).curIndex = s.curIndex := rfl
@[simp] theorem State.loadTx_curValid (f : Frame) : (s.loadTx f).curValid = s.curValid := rfl
@[simp] theorem State.loadTx_msgCount (f : Frame) : (s.loadTx f).msgCount = s.msgCount := rfl
@[simp] theorem State.loadTx_errCount (f : Frame) : (s.loadTx f).errCount = s.errCount := rfl
@[simp] theorem State.loadTx_overrunCount (f : Frame) : (s.loadTx f).overrunCount = s.overrunCount := rfl
@[simp] theorem State.loadTx_channels (f : Frame) : (s.loadTx f).channels = s.channels := rfl
@[simp] theorem State.loadTx_params (f : Frame) : (s.loadTx f).params = s.params := rfl
@[simp] theorem State.loadTx_input (f : Frame) : (s.loadTx f).input = s.input := rfl
@[simp] theorem State.loadTx_reply (f : Frame) : (s.loadTx f).reply = s.reply := rfl
@[simp] theorem State.loadTx_actions (f : Frame) : (s.loadTx f).actions = s.actions := rfl

/-! ## `sendFrame` -/

@[simp] theorem State.sendFrame_role : (s.sendFrame).role = s.role := rfl
@[simp] theorem State.sendFrame_stationAddress : (s.sendFrame).stationAddress = s.stationAddress := rfl
@[simp] theorem State.sendFrame_running : (s.sendFrame).running = s.running := rfl
@[simp] theorem State.sendFrame_tickCount : (s.sendFrame).tickCount = s.tickCount := rfl
@[simp] theorem State.sendFrame_silence : (s.sendFrame).silence = s.silence := rfl
@[simp] theorem State.sendFrame_stateTimer : (s.sendFrame).stateTimer = s.stateTimer := rfl
@[simp] theorem State.sendFrame_rxCount : (s.sendFrame).rxCount = s.rxCount := rfl
@[simp] theorem State.sendFrame_rxBuf : (s.sendFrame).rxBuf = s.rxBuf := rfl
@[simp] theorem State.sendFrame_loopbackPending : (s.sendFrame).loopbackPending = true := rfl
@[simp] theorem State.sendFrame_rxKind : (s.sendFrame).rxKind = s.rxKind := rfl
@[simp] theorem State.sendFrame_rxPacket : (s.sendFrame).rxPacket = s.rxPacket := rfl
@[simp] theorem State.sendFrame_txLen : (s.sendFrame).txLen = s.txLen := rfl
@[simp] theorem State.sendFrame_txBuf : (s.sendFrame).txBuf = s.txBuf := rfl
@[simp] theorem State.sendFrame_txPacket : (s.sendFrame).txPacket = s.txPacket := rfl
@[simp] theorem State.sendFrame_curState : (s.sendFrame).curState = s.curState := rfl
@[simp] theorem State.sendFrame_nextState : (s.sendFrame).nextState = s.nextState := rfl
@[simp] theorem State.sendFrame_pollSub : (s.sendFrame).pollSub = s.pollSub := rfl
@[simp] theorem State.sendFrame_selectSub : (s.sendFrame).selectSub = s.selectSub := rfl
@[simp] theorem State.sendFrame_pendingEvent : (s.sendFrame).pendingEvent = s.pendingEvent := rfl
@[simp] theorem State.sendFrame_curIndex : (s.sendFrame).curIndex = s.curIndex := rfl
@[simp] theorem State.sendFrame_curValid : (s.sendFrame).curValid = s.curValid := rfl
@[simp] theorem State.sendFrame_msgCount : (s.sendFrame).msgCount = s.msgCount := rfl
@[simp] theorem State.sendFrame_errCount : (s.sendFrame).errCount = s.errCount := rfl
@[simp] theorem State.sendFrame_overrunCount : (s.sendFrame).overrunCount = s.overrunCount := rfl
@[simp] theorem State.sendFrame_channels : (s.sendFrame).channels = s.channels := rfl
@[simp] theorem State.sendFrame_params : (s.sendFrame).params = s.params := rfl
@[simp] theorem State.sendFrame_input : (s.sendFrame).input = s.input := rfl
@[simp] theorem State.sendFrame_reply : (s.sendFrame).reply = s.reply := rfl
@[simp] theorem State.sendFrame_actions : (s.sendFrame).actions = s.actions ++ [.txMode, .transmit s.txFrame] := rfl

/-! ## `setChannel` -/

@[simp] theorem State.setChannel_role (i : Fin nCh) (c : Channel) : (s.setChannel i c).role = s.role := rfl
@[simp] theorem State.setChannel_stationAddress (i : Fin nCh) (c : Channel) :
    (s.setChannel i c).stationAddress = s.stationAddress := rfl
@[simp] theorem State.setChannel_running (i : Fin nCh) (c : Channel) : (s.setChannel i c).running = s.running := rfl
@[simp] theorem State.setChannel_tickCount (i : Fin nCh) (c : Channel) :
    (s.setChannel i c).tickCount = s.tickCount := rfl
@[simp] theorem State.setChannel_silence (i : Fin nCh) (c : Channel) : (s.setChannel i c).silence = s.silence := rfl
@[simp] theorem State.setChannel_stateTimer (i : Fin nCh) (c : Channel) :
    (s.setChannel i c).stateTimer = s.stateTimer := rfl
@[simp] theorem State.setChannel_rxCount (i : Fin nCh) (c : Channel) : (s.setChannel i c).rxCount = s.rxCount := rfl
@[simp] theorem State.setChannel_rxBuf (i : Fin nCh) (c : Channel) : (s.setChannel i c).rxBuf = s.rxBuf := rfl
@[simp] theorem State.setChannel_loopbackPending (i : Fin nCh) (c : Channel) :
    (s.setChannel i c).loopbackPending = s.loopbackPending := rfl
@[simp] theorem State.setChannel_rxKind (i : Fin nCh) (c : Channel) : (s.setChannel i c).rxKind = s.rxKind := rfl
@[simp] theorem State.setChannel_rxPacket (i : Fin nCh) (c : Channel) :
    (s.setChannel i c).rxPacket = s.rxPacket := rfl
@[simp] theorem State.setChannel_txLen (i : Fin nCh) (c : Channel) : (s.setChannel i c).txLen = s.txLen := rfl
@[simp] theorem State.setChannel_txBuf (i : Fin nCh) (c : Channel) : (s.setChannel i c).txBuf = s.txBuf := rfl
@[simp] theorem State.setChannel_txPacket (i : Fin nCh) (c : Channel) :
    (s.setChannel i c).txPacket = s.txPacket := rfl
@[simp] theorem State.setChannel_curState (i : Fin nCh) (c : Channel) :
    (s.setChannel i c).curState = s.curState := rfl
@[simp] theorem State.setChannel_nextState (i : Fin nCh) (c : Channel) :
    (s.setChannel i c).nextState = s.nextState := rfl
@[simp] theorem State.setChannel_pollSub (i : Fin nCh) (c : Channel) : (s.setChannel i c).pollSub = s.pollSub := rfl
@[simp] theorem State.setChannel_selectSub (i : Fin nCh) (c : Channel) :
    (s.setChannel i c).selectSub = s.selectSub := rfl
@[simp] theorem State.setChannel_pendingEvent (i : Fin nCh) (c : Channel) :
    (s.setChannel i c).pendingEvent = s.pendingEvent := rfl
@[simp] theorem State.setChannel_curIndex (i : Fin nCh) (c : Channel) :
    (s.setChannel i c).curIndex = s.curIndex := rfl
@[simp] theorem State.setChannel_curValid (i : Fin nCh) (c : Channel) :
    (s.setChannel i c).curValid = s.curValid := rfl
@[simp] theorem State.setChannel_msgCount (i : Fin nCh) (c : Channel) :
    (s.setChannel i c).msgCount = s.msgCount := rfl
@[simp] theorem State.setChannel_errCount (i : Fin nCh) (c : Channel) :
    (s.setChannel i c).errCount = s.errCount := rfl
@[simp] theorem State.setChannel_overrunCount (i : Fin nCh) (c : Channel) :
    (s.setChannel i c).overrunCount = s.overrunCount := rfl
@[simp] theorem State.setChannel_channels (i : Fin nCh) (c : Channel) :
    (s.setChannel i c).channels = s.channels.set i.val (some c) i.isLt := rfl
@[simp] theorem State.setChannel_params (i : Fin nCh) (c : Channel) : (s.setChannel i c).params = s.params := rfl
@[simp] theorem State.setChannel_input (i : Fin nCh) (c : Channel) : (s.setChannel i c).input = s.input := rfl
@[simp] theorem State.setChannel_reply (i : Fin nCh) (c : Channel) : (s.setChannel i c).reply = s.reply := rfl
@[simp] theorem State.setChannel_actions (i : Fin nCh) (c : Channel) : (s.setChannel i c).actions = s.actions := rfl

/-! ## `prepareReply` -/

@[simp] theorem State.prepareReply_role (f : Frame) : (s.prepareReply f).role = s.role := rfl
@[simp] theorem State.prepareReply_stationAddress (f : Frame) :
    (s.prepareReply f).stationAddress = s.stationAddress := rfl
@[simp] theorem State.prepareReply_running (f : Frame) : (s.prepareReply f).running = s.running := rfl
@[simp] theorem State.prepareReply_tickCount (f : Frame) : (s.prepareReply f).tickCount = s.tickCount := rfl
@[simp] theorem State.prepareReply_silence (f : Frame) : (s.prepareReply f).silence = s.silence := rfl
@[simp] theorem State.prepareReply_stateTimer (f : Frame) :
    (s.prepareReply f).stateTimer = armTimer s.tickCount s.params.tAckDelay := rfl
@[simp] theorem State.prepareReply_rxCount (f : Frame) : (s.prepareReply f).rxCount = s.rxCount := rfl
@[simp] theorem State.prepareReply_rxBuf (f : Frame) : (s.prepareReply f).rxBuf = s.rxBuf := rfl
@[simp] theorem State.prepareReply_loopbackPending (f : Frame) :
    (s.prepareReply f).loopbackPending = s.loopbackPending := rfl
@[simp] theorem State.prepareReply_rxKind (f : Frame) : (s.prepareReply f).rxKind = s.rxKind := rfl
@[simp] theorem State.prepareReply_rxPacket (f : Frame) : (s.prepareReply f).rxPacket = s.rxPacket := rfl
@[simp] theorem State.prepareReply_txLen (f : Frame) :
    (s.prepareReply f).txLen = BitVec.ofNat 9 (encodeFrame s.params f).length := rfl
@[simp] theorem State.prepareReply_txBuf (f : Frame) :
    (s.prepareReply f).txBuf = s.txBuf.writeFrom 0 (encodeFrame s.params f) := rfl
@[simp] theorem State.prepareReply_txPacket (f : Frame) : (s.prepareReply f).txPacket = s.txPacket := rfl
@[simp] theorem State.prepareReply_curState (f : Frame) : (s.prepareReply f).curState = s.curState := rfl
@[simp] theorem State.prepareReply_nextState (f : Frame) : (s.prepareReply f).nextState = s.nextState := rfl
@[simp] theorem State.prepareReply_pollSub (f : Frame) : (s.prepareReply f).pollSub = s.pollSub := rfl
@[simp] theorem State.prepareReply_selectSub (f : Frame) : (s.prepareReply f).selectSub = s.selectSub := rfl
@[simp] theorem State.prepareReply_pendingEvent (f : Frame) : (s.prepareReply f).pendingEvent = s.pendingEvent := rfl
@[simp] theorem State.prepareReply_curIndex (f : Frame) : (s.prepareReply f).curIndex = s.curIndex := rfl
@[simp] theorem State.prepareReply_curValid (f : Frame) : (s.prepareReply f).curValid = s.curValid := rfl
@[simp] theorem State.prepareReply_msgCount (f : Frame) : (s.prepareReply f).msgCount = s.msgCount := rfl
@[simp] theorem State.prepareReply_errCount (f : Frame) : (s.prepareReply f).errCount = s.errCount := rfl
@[simp] theorem State.prepareReply_overrunCount (f : Frame) : (s.prepareReply f).overrunCount = s.overrunCount := rfl
@[simp] theorem State.prepareReply_channels (f : Frame) : (s.prepareReply f).channels = s.channels := rfl
@[simp] theorem State.prepareReply_params (f : Frame) : (s.prepareReply f).params = s.params := rfl
@[simp] theorem State.prepareReply_input (f : Frame) : (s.prepareReply f).input = s.input := rfl
@[simp] theorem State.prepareReply_reply (f : Frame) : (s.prepareReply f).reply = s.reply := rfl
@[simp] theorem State.prepareReply_actions (f : Frame) : (s.prepareReply f).actions = s.actions := rfl

/-! ## `clearFramer` -/

@[simp] theorem State.clearFramer_role : (s.clearFramer).role = s.role := rfl
@[simp] theorem State.clearFramer_stationAddress : (s.clearFramer).stationAddress = s.stationAddress := rfl
@[simp] theorem State.clearFramer_running : (s.clearFramer).running = s.running := rfl
@[simp] theorem State.clearFramer_tickCount : (s.clearFramer).tickCount = s.tickCount := rfl
@[simp] theorem State.clearFramer_silence : (s.clearFramer).silence = s.silence.disarm := rfl
@[simp] theorem State.clearFramer_stateTimer : (s.clearFramer).stateTimer = s.stateTimer := rfl
@[simp] theorem State.clearFramer_rxCount : (s.clearFramer).rxCount = 0#9 := rfl
@[simp] theorem State.clearFramer_rxBuf : (s.clearFramer).rxBuf = s.rxBuf := rfl
@[simp] theorem State.clearFramer_loopbackPending : (s.clearFramer).loopbackPending = s.loopbackPending := rfl
@[simp] theorem State.clearFramer_rxKind : (s.clearFramer).rxKind = s.rxKind := rfl
@[simp] theorem State.clearFramer_rxPacket : (s.clearFramer).rxPacket = s.rxPacket := rfl
@[simp] theorem State.clearFramer_txLen : (s.clearFramer).txLen = s.txLen := rfl
@[simp] theorem State.clearFramer_txBuf : (s.clearFramer).txBuf = s.txBuf := rfl
@[simp] theorem State.clearFramer_txPacket : (s.clearFramer).txPacket = s.txPacket := rfl
@[simp] theorem State.clearFramer_curState : (s.clearFramer).curState = s.curState := rfl
@[simp] theorem State.clearFramer_nextState : (s.clearFramer).nextState = s.nextState := rfl
@[simp] theorem State.clearFramer_pollSub : (s.clearFramer).pollSub = s.pollSub := rfl
@[simp] theorem State.clearFramer_selectSub : (s.clearFramer).selectSub = s.selectSub := rfl
@[simp] theorem State.clearFramer_pendingEvent : (s.clearFramer).pendingEvent = s.pendingEvent := rfl
@[simp] theorem State.clearFramer_curIndex : (s.clearFramer).curIndex = s.curIndex := rfl
@[simp] theorem State.clearFramer_curValid : (s.clearFramer).curValid = s.curValid := rfl
@[simp] theorem State.clearFramer_msgCount : (s.clearFramer).msgCount = s.msgCount := rfl
@[simp] theorem State.clearFramer_errCount : (s.clearFramer).errCount = s.errCount := rfl
@[simp] theorem State.clearFramer_overrunCount : (s.clearFramer).overrunCount = s.overrunCount := rfl
@[simp] theorem State.clearFramer_channels : (s.clearFramer).channels = s.channels := rfl
@[simp] theorem State.clearFramer_params : (s.clearFramer).params = s.params := rfl
@[simp] theorem State.clearFramer_input : (s.clearFramer).input = s.input := rfl
@[simp] theorem State.clearFramer_reply : (s.clearFramer).reply = s.reply := rfl
@[simp] theorem State.clearFramer_actions : (s.clearFramer).actions = s.actions := rfl

/-! ## `releaseLine` -/

@[simp] theorem State.releaseLine_role : (s.releaseLine).role = s.role := rfl
@[simp] theorem State.releaseLine_stationAddress : (s.releaseLine).stationAddress = s.stationAddress := rfl
@[simp] theorem State.releaseLine_running : (s.releaseLine).running = s.running := rfl
@[simp] theorem State.releaseLine_tickCount : (s.releaseLine).tickCount = s.tickCount := rfl
@[simp] theorem State.releaseLine_silence : (s.releaseLine).silence = s.silence := rfl
@[simp] theorem State.releaseLine_stateTimer : (s.releaseLine).stateTimer = s.stateTimer := rfl
@[simp] theorem State.releaseLine_rxCount : (s.releaseLine).rxCount = s.rxCount := rfl
@[simp] theorem State.releaseLine_rxBuf : (s.releaseLine).rxBuf = s.rxBuf := rfl
@[simp] theorem State.releaseLine_loopbackPending : (s.releaseLine).loopbackPending = false := rfl
@[simp] theorem State.releaseLine_rxKind : (s.releaseLine).rxKind = s.rxKind := rfl
@[simp] theorem State.releaseLine_rxPacket : (s.releaseLine).rxPacket = s.rxPacket := rfl
@[simp] theorem State.releaseLine_txLen : (s.releaseLine).txLen = s.txLen := rfl
@[simp] theorem State.releaseLine_txBuf : (s.releaseLine).txBuf = s.txBuf := rfl
@[simp] theorem State.releaseLine_txPacket : (s.releaseLine).txPacket = s.txPacket := rfl
@[simp] theorem State.releaseLine_curState : (s.releaseLine).curState = s.curState := rfl
@[simp] theorem State.releaseLine_nextState : (s.releaseLine).nextState = s.nextState := rfl
@[simp] theorem State.releaseLine_pollSub : (s.releaseLine).pollSub = s.pollSub := rfl
@[simp] theorem State.releaseLine_selectSub : (s.releaseLine).selectSub = s.selectSub := rfl
@[simp] theorem State.releaseLine_pendingEvent : (s.releaseLine).pendingEvent = s.pendingEvent := rfl
@[simp] theorem State.releaseLine_curIndex : (s.releaseLine).curIndex = s.curIndex := rfl
@[simp] theorem State.releaseLine_curValid : (s.releaseLine).curValid = s.curValid := rfl
@[simp] theorem State.releaseLine_msgCount : (s.releaseLine).msgCount = s.msgCount := rfl
@[simp] theorem State.releaseLine_errCount : (s.releaseLine).errCount = s.errCount := rfl
@[simp] theorem State.releaseLine_overrunCount : (s.releaseLine).overrunCount = s.overrunCount := rfl
@[simp] theorem State.releaseLine_channels : (s.releaseLine).channels = s.channels := rfl
@[simp] theorem State.releaseLine_params : (s.releaseLine).params = s.params := rfl
@[simp] theorem State.releaseLine_input : (s.releaseLine).input = s.input := rfl
@[simp] theorem State.releaseLine_reply : (s.releaseLine).reply = s.reply := rfl
@[simp] theorem State.releaseLine_actions : (s.releaseLine).actions = s.actions ++ [.rxMode] := rfl

/-! ## `exitHook` -/

@[simp] theorem State.exitHook_role : (s.exitHook).role = s.role := rfl
@[simp] theorem State.exitHook_stationAddress : (s.exitHook).stationAddress = s.stationAddress := rfl
@[simp] theorem State.exitHook_running : (s.exitHook).running = s.running := rfl
@[simp] theorem State.exitHook_tickCount : (s.exitHook).tickCount = s.tickCount := rfl
@[simp] theorem State.exitHook_silence : (s.exitHook).silence = s.silence := rfl
@[simp] theorem State.exitHook_stateTimer : (s.exitHook).stateTimer = s.stateTimer.disarm := rfl
@[simp] theorem State.exitHook_rxCount : (s.exitHook).rxCount = s.rxCount := rfl
@[simp] theorem State.exitHook_rxBuf : (s.exitHook).rxBuf = s.rxBuf := rfl
@[simp] theorem State.exitHook_loopbackPending : (s.exitHook).loopbackPending = s.loopbackPending := rfl
@[simp] theorem State.exitHook_rxKind : (s.exitHook).rxKind = s.rxKind := rfl
@[simp] theorem State.exitHook_rxPacket : (s.exitHook).rxPacket = s.rxPacket := rfl
@[simp] theorem State.exitHook_txLen : (s.exitHook).txLen = s.txLen := rfl
@[simp] theorem State.exitHook_txBuf : (s.exitHook).txBuf = s.txBuf := rfl
@[simp] theorem State.exitHook_txPacket : (s.exitHook).txPacket = s.txPacket := rfl
@[simp] theorem State.exitHook_curState : (s.exitHook).curState = s.curState := rfl
@[simp] theorem State.exitHook_nextState : (s.exitHook).nextState = s.nextState := rfl
@[simp] theorem State.exitHook_pollSub : (s.exitHook).pollSub = s.pollSub := rfl
@[simp] theorem State.exitHook_selectSub : (s.exitHook).selectSub = s.selectSub := rfl
@[simp] theorem State.exitHook_pendingEvent : (s.exitHook).pendingEvent = s.pendingEvent := rfl
@[simp] theorem State.exitHook_curIndex : (s.exitHook).curIndex = s.curIndex := rfl
@[simp] theorem State.exitHook_curValid : (s.exitHook).curValid = s.curValid := rfl
@[simp] theorem State.exitHook_msgCount : (s.exitHook).msgCount = s.msgCount := rfl
@[simp] theorem State.exitHook_errCount : (s.exitHook).errCount = s.errCount := rfl
@[simp] theorem State.exitHook_overrunCount : (s.exitHook).overrunCount = s.overrunCount := rfl
@[simp] theorem State.exitHook_channels : (s.exitHook).channels = s.channels := rfl
@[simp] theorem State.exitHook_params : (s.exitHook).params = s.params := rfl
@[simp] theorem State.exitHook_input : (s.exitHook).input = s.input := rfl
@[simp] theorem State.exitHook_reply : (s.exitHook).reply = s.reply := rfl
@[simp] theorem State.exitHook_actions : (s.exitHook).actions = s.actions := rfl

/-! ## `advanceTick` -/

@[simp] theorem State.advanceTick_role : (s.advanceTick).role = s.role := rfl
@[simp] theorem State.advanceTick_stationAddress : (s.advanceTick).stationAddress = s.stationAddress := rfl
@[simp] theorem State.advanceTick_running : (s.advanceTick).running = s.running := rfl
@[simp] theorem State.advanceTick_tickCount : (s.advanceTick).tickCount = inc32 s.tickCount := rfl
@[simp] theorem State.advanceTick_silence : (s.advanceTick).silence = s.silence := rfl
@[simp] theorem State.advanceTick_stateTimer : (s.advanceTick).stateTimer = s.stateTimer := rfl
@[simp] theorem State.advanceTick_rxCount : (s.advanceTick).rxCount = s.rxCount := rfl
@[simp] theorem State.advanceTick_rxBuf : (s.advanceTick).rxBuf = s.rxBuf := rfl
@[simp] theorem State.advanceTick_loopbackPending : (s.advanceTick).loopbackPending = s.loopbackPending := rfl
@[simp] theorem State.advanceTick_rxKind : (s.advanceTick).rxKind = s.rxKind := rfl
@[simp] theorem State.advanceTick_rxPacket : (s.advanceTick).rxPacket = s.rxPacket := rfl
@[simp] theorem State.advanceTick_txLen : (s.advanceTick).txLen = s.txLen := rfl
@[simp] theorem State.advanceTick_txBuf : (s.advanceTick).txBuf = s.txBuf := rfl
@[simp] theorem State.advanceTick_txPacket : (s.advanceTick).txPacket = s.txPacket := rfl
@[simp] theorem State.advanceTick_curState : (s.advanceTick).curState = s.curState := rfl
@[simp] theorem State.advanceTick_nextState : (s.advanceTick).nextState = s.nextState := rfl
@[simp] theorem State.advanceTick_pollSub : (s.advanceTick).pollSub = s.pollSub := rfl
@[simp] theorem State.advanceTick_selectSub : (s.advanceTick).selectSub = s.selectSub := rfl
@[simp] theorem State.advanceTick_pendingEvent : (s.advanceTick).pendingEvent = s.pendingEvent := rfl
@[simp] theorem State.advanceTick_curIndex : (s.advanceTick).curIndex = s.curIndex := rfl
@[simp] theorem State.advanceTick_curValid : (s.advanceTick).curValid = s.curValid := rfl
@[simp] theorem State.advanceTick_msgCount : (s.advanceTick).msgCount = s.msgCount := rfl
@[simp] theorem State.advanceTick_errCount : (s.advanceTick).errCount = s.errCount := rfl
@[simp] theorem State.advanceTick_overrunCount : (s.advanceTick).overrunCount = s.overrunCount := rfl
@[simp] theorem State.advanceTick_channels : (s.advanceTick).channels = s.channels := rfl
@[simp] theorem State.advanceTick_params : (s.advanceTick).params = s.params := rfl
@[simp] theorem State.advanceTick_input : (s.advanceTick).input = s.input := rfl
@[simp] theorem State.advanceTick_reply : (s.advanceTick).reply = s.reply := rfl
@[simp] theorem State.advanceTick_actions : (s.advanceTick).actions = s.actions := rfl

/-! ## The channel of a slot, across an update -/

@[simp] theorem State.channel_mk_channels (t : State) (v : Vector (Option Channel) nCh) (i : Fin nCh) :
    ({ t with channels := v } : State).channel i = v[i.val]'i.isLt := rfl

/-- Two states with the same slots have the same channels. -/
theorem State.channel_congr {s t : State} (h : s.channels = t.channels) (i : Fin nCh) : s.channel i = t.channel i := by
  simp only [State.channel, h]

/-- The slot that was set. -/
@[simp] theorem State.channel_setChannel_self (i : Fin nCh) (c : Channel) : (s.setChannel i c).channel i = some c := by
  simp [State.channel]

/-- Every other slot. -/
theorem State.channel_setChannel_ne {i j : Fin nCh} (c : Channel) (h : i ≠ j) :
    (s.setChannel i c).channel j = s.channel j := by
  have hv : i.val ≠ j.val := fun e => h (Fin.ext e)
  simp [State.channel, Vector.getElem_set_ne, hv]

/-- Both cases in one. -/
theorem State.channel_setChannel (i j : Fin nCh) (c : Channel) :
    (s.setChannel i c).channel j = if i = j then some c else s.channel j := by
  split
  · next h => subst h; exact s.channel_setChannel_self i c
  · next h => exact s.channel_setChannel_ne c h

@[simp] theorem State.channel_withReply (r : List Byte) (i : Fin nCh) :
    (s.withReply r).channel i = s.channel i := rfl
@[simp] theorem State.channel_emit (a : Action) (i : Fin nCh) :
    (s.emit a).channel i = s.channel i := rfl
@[simp] theorem State.channel_post (e : Event) (target : TopState) (i : Fin nCh) :
    (s.post e target).channel i = s.channel i := rfl
@[simp] theorem State.channel_armStateTimer (interval : Word) (i : Fin nCh) :
    (s.armStateTimer interval).channel i = s.channel i := rfl
@[simp] theorem State.channel_disarmStateTimer (i : Fin nCh) :
    (s.disarmStateTimer).channel i = s.channel i := rfl
@[simp] theorem State.channel_loadTx (f : Frame) (i : Fin nCh) :
    (s.loadTx f).channel i = s.channel i := rfl
@[simp] theorem State.channel_sendFrame (i : Fin nCh) :
    (s.sendFrame).channel i = s.channel i := rfl
@[simp] theorem State.channel_prepareReply (f : Frame) (i : Fin nCh) :
    (s.prepareReply f).channel i = s.channel i := rfl
@[simp] theorem State.channel_clearFramer (i : Fin nCh) :
    (s.clearFramer).channel i = s.channel i := rfl
@[simp] theorem State.channel_releaseLine (i : Fin nCh) :
    (s.releaseLine).channel i = s.channel i := rfl
@[simp] theorem State.channel_exitHook (i : Fin nCh) :
    (s.exitHook).channel i = s.channel i := rfl
@[simp] theorem State.channel_advanceTick (i : Fin nCh) :
    (s.advanceTick).channel i = s.channel i := rfl

end Sys2Proof.Machine
end

