-- ==== Sys2Proof/Laws/Ops.lean ====
section
/-! SUPPORT. For each shared operation, what it can do, said once: the later proofs cite these instead of unfolding. -/

namespace Sys2Proof.Machine

/-! ## Arithmetic and timers -/

theorem satInc8_toNat (c : Byte) : (satInc8 c).toNat = min (c.toNat + 1) 255 := by
  unfold satInc8
  split
  · next h => subst h; decide
  · next h =>
    have : c.toNat ≠ 255 := fun e => h (BitVec.eq_of_toNat_eq e)
    have := c.isLt
    simp [BitVec.toNat_add]
    omega

@[simp] theorem armTimer_armed (now interval : Word) : (armTimer now interval).armed = true := rfl
@[simp] theorem armTimer_start (now interval : Word) : (armTimer now interval).start = now := rfl
@[simp] theorem armTimer_interval (now interval : Word) : (armTimer now interval).interval = interval := rfl
@[simp] theorem Timer.disarm_armed (t : Timer) : t.disarm.armed = false := rfl
@[simp] theorem Timer.disarm_start (t : Timer) : t.disarm.start = t.start := rfl
@[simp] theorem Timer.disarm_interval (t : Timer) : t.disarm.interval = t.interval := rfl
@[simp] theorem Timer.disarm_disarm (t : Timer) : t.disarm.disarm = t.disarm := rfl

/-- Only an armed timer expires (R192). -/
theorem Timer.armed_of_expired {t : Timer} {now : Word} (h : t.expired now = true) : t.armed = true := by
  simp only [Timer.expired, Bool.and_eq_true] at h
  exact h.1

@[simp] theorem Timer.expired_disarm (t : Timer) (now : Word) : t.disarm.expired now = false := rfl

/-! ## Queues -/

/-- `put` answers the queue with the packet at its tail, and only where there is room (20_memory.md R85). -/
theorem Queue.put_eq_some {q q' : Queue} {p : Packet} :
    q.put p = some q' ↔ q.items.length ≠ q.cap.toNat ∧ q' = { q with items := q.items ++ [p] } := by
  unfold Queue.put Queue.isFull
  split
  · next h => simp only [beq_iff_eq] at h; simp [h]
  · next h => simp only [beq_iff_eq] at h; simp [h, eq_comm]

/-- `put` answers `full` exactly where the queue holds `cap` packets (R85, R87). -/
theorem Queue.put_eq_none {q : Queue} {p : Packet} : q.put p = none ↔ q.items.length = q.cap.toNat := by
  unfold Queue.put Queue.isFull
  split
  · next h => simpa using h
  · next h => simpa using h

/-- `get` answers the head and leaves the rest (R86). -/
theorem Queue.get_eq_some {q rest : Queue} {p : Packet} :
    q.get = some (p, rest) ↔ q.items = p :: rest.items ∧ rest.cap = q.cap := by
  obtain ⟨cap, items⟩ := q
  obtain ⟨cap', items'⟩ := rest
  cases items with
  | nil => simp [Queue.get]
  | cons x xs => simp [Queue.get]; tauto

/-- `get` answers `empty` exactly where the queue holds no packet (R86, R87). -/
theorem Queue.get_eq_none {q : Queue} : q.get = none ↔ q.items = [] := by
  unfold Queue.get
  split
  · next h => simp [h]
  · next h => simp [h]

/-! ## The registry -/

/-- A rule on a slot either finds no channel and does nothing, or acts on the channel. -/
theorem State.onChannel_cases (s : State) (i : Fin nCh) (f : Channel → State) :
    (s.channel i = none ∧ s.onChannel i f = s) ∨ ∃ c, s.channel i = some c ∧ s.onChannel i f = f c := by
  unfold State.onChannel
  cases h : s.channel i with
  | none => exact .inl ⟨rfl, rfl⟩
  | some c => exact .inr ⟨c, rfl, rfl⟩

@[simp] theorem State.onChannel_some {s : State} {i : Fin nCh} {c : Channel} (f : Channel → State)
    (h : s.channel i = some c) : s.onChannel i f = f c := by simp [State.onChannel, h]

@[simp] theorem State.onChannel_none {s : State} {i : Fin nCh} (f : Channel → State)
    (h : s.channel i = none) : s.onChannel i f = s := by simp [State.onChannel, h]

/-- An `id` operand denotes the slot of its number and the channel there (42_registry.md R182). -/
theorem State.channelOf_eq_some {s : State} {id : Byte} {i : Fin nCh} {c : Channel} :
    s.channelOf id = some (i, c) ↔ id.toNat = i.val ∧ s.channel i = some c := by
  unfold State.channelOf slotOf
  by_cases h : id.toNat < nCh
  · simp only [h, dite_true]
    cases hc : s.channel ⟨id.toNat, h⟩ with
    | none =>
      simp only [reduceCtorEq, false_iff, not_and]
      rintro hi hs
      rw [show i = ⟨id.toNat, h⟩ from Fin.ext hi.symm, hc] at hs
      exact nomatch hs
    | some d =>
      simp only [Option.some.injEq, Prod.mk.injEq]
      constructor
      · rintro ⟨rfl, rfl⟩
        exact ⟨rfl, hc⟩
      · rintro ⟨hi, hs⟩
        have hi' : (⟨id.toNat, h⟩ : Fin nCh) = i := Fin.ext hi
        subst hi'
        rw [hc] at hs
        exact ⟨rfl, Option.some.inj hs⟩
  · simp only [h, dite_false, reduceCtorEq, false_iff, not_and]
    intro hi
    exact absurd (hi ▸ i.isLt) h

/-- What `find?` on a list answers: a member that has the property, and no earlier one has it. -/
theorem find?_finRange_isSome {P : Fin nCh → Bool} {i : Fin nCh} (h : P i = true) :
    ((List.finRange nCh).find? P).isSome = true := by
  rw [List.find?_isSome]
  exact ⟨i, List.mem_finRange i, h⟩

/-- The free slot is unoccupied, and every lower slot is occupied (42_registry.md R180). -/
theorem State.freeSlot_spec {s : State} {i : Fin nCh} (h : s.freeSlot = some i) :
    s.channel i = none ∧ ∀ j, j < i → (s.channel j).isSome = true := by
  unfold State.freeSlot at h
  rw [List.find?_eq_some_iff_getElem] at h
  obtain ⟨hi, k, hk, hki, hlt⟩ := h
  simp only [Option.isNone_iff_eq_none] at hi
  refine ⟨hi, fun j hj => ?_⟩
  simp only [List.getElem_finRange] at hki hlt
  have hkv : k = i.val := congrArg Fin.val hki
  have hjk : j.val < k := hkv ▸ hj
  have := hlt j.val hjk
  simp only [Fin.cast_mk, Fin.eta, Bool.not_eq_true', Option.isNone_eq_false_iff] at this
  exact this

/-- There is no free slot exactly where every slot is occupied. -/
theorem State.freeSlot_none {s : State} : s.freeSlot = none ↔ ∀ i, (s.channel i).isSome = true := by
  unfold State.freeSlot
  rw [List.find?_eq_none]
  constructor
  · intro h i
    have := h i (List.mem_finRange i)
    simpa [Option.isSome_iff_ne_none, Option.isNone_iff_eq_none] using this
  · intro h i _
    simpa [Option.isSome_iff_ne_none, Option.isNone_iff_eq_none] using h i

/-- What `create` can do: fail and change nothing, or put a new channel into the lowest free slot (R180). -/
theorem State.create_cases (s : State) (a : Byte) (pa sa : Bool) (oc ic : Byte) :
    (s.create a pa sa oc ic = none ∧
      ((legalCapacity s.params oc && legalCapacity s.params ic) = false ∨ s.freeSlot = none)) ∨
    ∃ i, s.freeSlot = some i ∧ (legalCapacity s.params oc && legalCapacity s.params ic) = true ∧
      s.create a pa sa oc ic = some (i, s.setChannel i (newChannel a pa sa oc ic)) := by
  unfold State.create
  cases hc : legalCapacity s.params oc && legalCapacity s.params ic with
  | false => exact .inl ⟨rfl, .inl rfl⟩
  | true =>
    cases hf : s.freeSlot with
    | none => exact .inl ⟨rfl, .inr rfl⟩
    | some i => exact .inr ⟨i, rfl, rfl, rfl⟩

/-- The round robin answers an occupied slot (42_registry.md R183). -/
theorem State.advanceRoundRobin_occupied {s : State} {j : Fin nCh} (h : s.advanceRoundRobin = some j) :
    (s.channel j).isSome = true := by
  unfold State.advanceRoundRobin at h
  exact List.find?_some (p := fun j => (s.channel j).isSome) h

/-- The lifecycle transition touches the state and the re-sync deadline only (R185). -/
theorem State.transition_frame (s : State) (c : Channel) (new : ChannelState) :
    s.transition c new =
      { c with state := new, resync := if c.state = new then c.resync else s.transitionTimer c new } := by
  unfold State.transition
  split
  · next h => obtain ⟨⟩ := c; simp at h; simp [h]
  · rfl

/-! ## The byte input -/

/-- A byte that fits joins the frame in progress (43_engine.md R221). -/
theorem State.receiveByte_room {s : State} (h : s.rxCount.toNat < maxFrame) (b : Byte) :
    s.receiveByte b =
      { s with
        rxBuf := s.rxBuf.write s.rxCount.toNat b
        rxCount := s.rxCount + 1#9
        silence := armTimer s.tickCount s.params.tSilence
        actions := s.actions ++ [.rxArm] } := by
  simp [State.receiveByte, State.storeByte, h]

/-- A byte beyond the 256th is discarded, and restarts the silence timer all the same (R221). -/
theorem State.receiveByte_full {s : State} (h : maxFrame ≤ s.rxCount.toNat) (b : Byte) :
    s.receiveByte b =
      { s with
        silence := armTimer s.tickCount s.params.tSilence
        actions := s.actions ++ [.rxArm] } := by
  simp [State.receiveByte, State.storeByte, Nat.not_lt.mpr h]

theorem succ9_toNat {c : BitVec 9} (h : c.toNat < maxFrame) : (c + 1#9).toNat = c.toNat + 1 := by
  have : maxFrame = 256 := rfl
  simp [BitVec.toNat_add]
  omega

/-- What a run of bytes leaves (R221): the bytes that fit 256 are stored in order, every other index reads as before,
each byte emits RX_ARM. -/
theorem State.receiveBytes_spec (s : State) (bytes : List Byte) (hw : s.rxBuf.wf = true)
    (hc : s.rxCount.toNat ≤ maxFrame) (hne : bytes ≠ []) :
    ∃ buf,
      s.receiveBytes bytes =
        { s with
          rxBuf := buf
          rxCount := BitVec.ofNat 9 (min (s.rxCount.toNat + bytes.length) maxFrame)
          silence := armTimer s.tickCount s.params.tSilence
          actions := s.actions ++ List.replicate bytes.length .rxArm } ∧
      buf.wf = true ∧
      ∀ a, Buffer.read buf a =
        if s.rxCount.toNat ≤ a ∧ a < min (s.rxCount.toNat + bytes.length) maxFrame
        then bytes.getD (a - s.rxCount.toNat) 0x00#8 else s.rxBuf.read a := by
  have hmax : maxFrame = 256 := rfl
  induction bytes generalizing s with
  | nil => exact absurd rfl hne
  | cons b bs ih =>
    have hone : ∃ buf,
        s.receiveByte b =
          { s with
            rxBuf := buf
            rxCount := BitVec.ofNat 9 (min (s.rxCount.toNat + 1) maxFrame)
            silence := armTimer s.tickCount s.params.tSilence
            actions := s.actions ++ [.rxArm] } ∧
        buf.wf = true ∧
        ∀ a, Buffer.read buf a = if s.rxCount.toNat = a ∧ a < maxFrame then b else s.rxBuf.read a := by
      by_cases h : s.rxCount.toNat < maxFrame
      · refine ⟨s.rxBuf.write s.rxCount.toNat b, ?_, Buffer.wf_write hw _ b, fun a => ?_⟩
        · have : s.rxCount + 1#9 = BitVec.ofNat 9 (min (s.rxCount.toNat + 1) maxFrame) :=
            BitVec.eq_of_toNat_eq (by rw [succ9_toNat h, BitVec.toNat_ofNat]; omega)
          rw [State.receiveByte_room h, this]
        · rw [Buffer.read_write hw h]
          by_cases ha : a = s.rxCount.toNat
          · rw [if_pos ha, if_pos (by omega)]
          · rw [if_neg ha, if_neg (by omega)]
      · refine ⟨s.rxBuf, ?_, hw, fun a => by rw [if_neg (by omega)]⟩
        have : s.rxCount = BitVec.ofNat 9 (min (s.rxCount.toNat + 1) maxFrame) :=
          BitVec.eq_of_toNat_eq (by rw [BitVec.toNat_ofNat]; omega)
        rw [State.receiveByte_full (by omega), ← this]
    obtain ⟨buf, h1, h2, h3⟩ := hone
    have hcount : (BitVec.ofNat 9 (min (s.rxCount.toNat + 1) maxFrame)).toNat = min (s.rxCount.toNat + 1) maxFrame := by
      rw [BitVec.toNat_ofNat]; omega
    show ∃ buf', (s.receiveByte b).receiveBytes bs = _ ∧ _
    rw [h1]
    by_cases hbs : bs = []
    · subst hbs
      refine ⟨buf, rfl, h2, fun a => ?_⟩
      rw [h3]
      by_cases ha : s.rxCount.toNat = a ∧ a < maxFrame
      · rw [if_pos ha, if_pos (by simp; omega), ha.1]; simp
      · rw [if_neg ha, if_neg (by simp; omega)]
    · obtain ⟨buf', g1, g2, g3⟩ := ih
        { s with
          rxBuf := buf
          rxCount := BitVec.ofNat 9 (min (s.rxCount.toNat + 1) maxFrame)
          silence := armTimer s.tickCount s.params.tSilence
          actions := s.actions ++ [.rxArm] } h2 (by rw [hcount]; omega) hbs
      refine ⟨buf', ?_, g2, fun a => ?_⟩
      · rw [g1]
        simp only [hcount, List.length_cons]
        rw [show min (min (s.rxCount.toNat + 1) maxFrame + bs.length) maxFrame =
          min (s.rxCount.toNat + (bs.length + 1)) maxFrame by omega]
        simp [List.replicate_succ]
      · rw [g3]
        simp only [hcount, List.length_cons]
        rw [h3]
        by_cases c1 : min (s.rxCount.toNat + 1) maxFrame ≤ a ∧
            a < min (min (s.rxCount.toNat + 1) maxFrame + bs.length) maxFrame
        · rw [if_pos c1, if_pos (by omega),
            show a - s.rxCount.toNat = (a - min (s.rxCount.toNat + 1) maxFrame) + 1 by omega]
          simp
        · rw [if_neg c1]
          by_cases c2 : s.rxCount.toNat = a ∧ a < maxFrame
          · rw [if_pos c2, if_pos (by omega), c2.1]; simp
          · rw [if_neg c2, if_neg (by omega)]

/-! ## The tick -/

/-- Where the event of a tick comes from, in the order of R227. -/
theorem State.deriveEvent_cases (s : State) :
    (s.silence.expired s.tickCount = true ∧ s.deriveEvent = s.handOff) ∨
    (s.silence.expired s.tickCount = false ∧ s.pendingEvent ≠ .none ∧ s.deriveEvent = s.takePending) ∨
    (s.silence.expired s.tickCount = false ∧ s.pendingEvent = .none ∧ s.stateTimer.expired s.tickCount = true ∧
      s.deriveEvent = s.timeOut) ∨
    (s.silence.expired s.tickCount = false ∧ s.pendingEvent = .none ∧ s.stateTimer.expired s.tickCount = false ∧
      s.deriveEvent = (s, .none)) := by
  unfold State.deriveEvent
  cases hs : s.silence.expired s.tickCount with
  | true => exact .inl ⟨rfl, by simp⟩
  | false =>
    by_cases hp : s.pendingEvent = .none
    · cases ht : s.stateTimer.expired s.tickCount with
      | true => exact .inr (.inr (.inl ⟨rfl, hp, rfl, by simp [hp]⟩))
      | false => exact .inr (.inr (.inr ⟨rfl, hp, rfl, by simp [hp]⟩))
    · exact .inr (.inl ⟨rfl, hp, by simp [hp]⟩)

/-- What a completed frame becomes (R213, R214). -/
theorem State.handOff_cases (s : State) :
    (s.loopbackPending = true ∧ s.handOff = (s.clearFramer.releaseLine, .loopback)) ∨
    (s.loopbackPending = false ∧ (decodeFrame s.params s.rxFrame).1 = .none ∧ s.handOff = (s.clearFramer, .none)) ∨
    (s.loopbackPending = false ∧ (decodeFrame s.params s.rxFrame).1 ≠ .none ∧
      s.handOff =
        ({ s.clearFramer with
            rxKind := (decodeFrame s.params s.rxFrame).1
            rxPacket := (decodeFrame s.params s.rxFrame).2
            msgCount := inc32 s.msgCount
            errCount :=
              if (decodeFrame s.params s.rxFrame).1 = .error then inc32 s.errCount else s.errCount },
          .frame)) := by
  unfold State.handOff State.decodeStep
  cases s.loopbackPending with
  | true => exact .inl ⟨rfl, rfl⟩
  | false =>
    by_cases hk : (decodeFrame s.params s.rxFrame).1 = .none
    · exact .inr (.inl ⟨rfl, hk, by simp [hk]⟩)
    · exact .inr (.inr ⟨rfl, hk, if_neg hk⟩)

/-- What a TIMEOUT does before its handler runs (R216). -/
theorem State.timeOut_cases (s : State) :
    (s.loopbackPending = true ∧ s.timeOut = (s.disarmStateTimer.releaseLine, .timeout)) ∨
    (s.loopbackPending = false ∧ s.timeOut = (s.disarmStateTimer, .timeout)) := by
  unfold State.timeOut
  cases s.loopbackPending with
  | true => exact .inl ⟨rfl, rfl⟩
  | false => exact .inr ⟨rfl, rfl⟩

/-- Dispatch without a change of the top state (R219): the handler alone. -/
theorem State.dispatch_stay {s : State} {ev : Event} (hn : ev ≠ .none) (h : s.resolve ev = s.curState) :
    s.dispatch ev = s.handle ev := by
  simp [State.dispatch, State.changeTop, hn, h]

/-- Dispatch with a change of the top state (R219): exit, the state changes, entry, handler. -/
theorem State.dispatch_change {s : State} {ev : Event} (hn : ev ≠ .none) (h : s.resolve ev ≠ s.curState) :
    s.dispatch ev =
      (State.entryHook { s.exitHook with curState := s.resolve ev } (s.resolve ev)).handle ev := by
  simp [State.dispatch, State.changeTop, hn, h]

@[simp] theorem State.dispatch_none (s : State) : s.dispatch .none = s := rfl

/-- A tick of a stopped bus (R210), of a running one (R211). -/
theorem State.tick_cases (s : State) :
    (s.running = false ∧ s.tick = s) ∨ (s.running = true ∧ s.tick = s.runTick) := by
  unfold State.tick
  cases s.running with
  | false => exact .inl ⟨rfl, rfl⟩
  | true => exact .inr ⟨rfl, rfl⟩

/-! ## Taking an input -/

/-- What one step can be: nothing to take, an input that decodes, or one that does not. -/
theorem step_cases (s : State) :
    (s.input = [] ∧ step s = .next s) ∨
    (∃ x rest i, s.input = x :: rest ∧ decodeStrobe s.params x = .ok i ∧ step s = exec i { s with input := rest }) ∨
    (∃ x rest e, s.input = x :: rest ∧ decodeStrobe s.params x = .error e ∧
      step s = .next (State.takeUndecoded { s with input := rest } x)) := by
  unfold step State.takeNext
  cases hi : s.input with
  | nil => exact .inl ⟨rfl, rfl⟩
  | cons x rest =>
    cases hd : decodeStrobe s.params x with
    | ok i => exact .inr (.inl ⟨x, rest, i, rfl, hd, by simp [State.take, hd]⟩)
    | error e => exact .inr (.inr ⟨x, rest, e, rfl, hd, by simp [State.take, hd]⟩)

end Sys2Proof.Machine
end

