-- ==== Sys2Proof/Laws/Tick.lean ====
section
/-! SUPPORT. What a tick does, said once: for each thing that can fall due (Safety.lean), the state in which the event is
dispatched. The proofs about TICK cite these and never unfold the derivation of the event. -/

namespace Sys2Proof.Machine

/-- `expired` is the condition of 42_registry.md R192. -/
theorem Timer.expired_iff (t : Timer) (now : Word) : t.expired now = true ↔ t.Elapsed now := by
  simp [Timer.expired, Timer.Elapsed, BitVec.le_def]

theorem Timer.expired_eq_true {t : Timer} {now : Word} (h : t.Elapsed now) : t.expired now = true :=
  (t.expired_iff now).mpr h

theorem Timer.expired_eq_false {t : Timer} {now : Word} (h : ¬ t.Elapsed now) : t.expired now = false :=
  Bool.eq_false_iff.mpr (mt (t.expired_iff now).mp h)

variable {s : State}

/-- A running tick derives its event from the state with the counter moved, and dispatches it. -/
theorem exec_tick_running (h : s.running = true) :
    exec .tick s =
      .next ((s.withReply []).advanceTick.deriveEvent.1.dispatch (s.withReply []).advanceTick.deriveEvent.2) := by
  show Host.Outcome.next (s.withReply []).tick = _
  unfold State.tick
  rw [if_pos (by exact h)]
  rfl

/-- R210, stopped. -/
theorem exec_tick_stopped (h : s.running = false) : exec .tick s = .next { s with reply := [] } := by
  show Host.Outcome.next (s.withReply []).tick = _
  unfold State.tick
  rw [if_neg (by simp [h])]
  rfl

/-- R213. -/
theorem exec_tick_echo (h : s.EchoDue) : exec .tick s = .next (s.tickEcho.dispatch .loopback) := by
  obtain ⟨⟨hr, hs⟩, hl⟩ := h
  have hd : (s.withReply []).advanceTick.deriveEvent = (s.tickEcho, .loopback) := by
    unfold State.deriveEvent
    rw [if_pos (by exact Timer.expired_eq_true hs)]
    unfold State.handOff
    rw [if_pos (by exact hl)]
    rfl
  rw [exec_tick_running hr, hd]

/-- R214, a frame that is recorded. -/
theorem exec_tick_frame {k : FrameKind} {p : Packet} (h : s.ReceiveDue k p) :
    exec .tick s = .next ((s.tickFrame k p).dispatch .frame) := by
  obtain ⟨⟨hr, hs⟩, hl, hk, hn⟩ := h
  have hd : (s.withReply []).advanceTick.deriveEvent = (s.tickFrame k p, .frame) := by
    unfold State.deriveEvent
    rw [if_pos (by exact Timer.expired_eq_true hs)]
    unfold State.handOff
    rw [if_neg (by simp [State.advanceTick, hl])]
    unfold State.decodeStep
    have hf : decodeFrame (s.withReply []).advanceTick.clearFramer.params (s.withReply []).advanceTick.rxFrame =
        (k, p) := hk
    rw [hf, if_neg hn]
    rfl
  rw [exec_tick_running hr, hd]

/-- R214, a frame that is dropped. -/
theorem exec_tick_garbage (h : s.GarbageDue) :
    exec .tick s = .next
      { s with
        reply := [], tickCount := s.now, rxCount := 0#9, silence := { s.silence with armed := false } } := by
  obtain ⟨⟨hr, hs⟩, hl, hk⟩ := h
  have hd : (s.withReply []).advanceTick.deriveEvent = ((s.withReply []).advanceTick.clearFramer, .none) := by
    unfold State.deriveEvent
    rw [if_pos (by exact Timer.expired_eq_true hs)]
    unfold State.handOff
    rw [if_neg (by simp [State.advanceTick, hl])]
    unfold State.decodeStep
    rw [if_pos (by exact hk)]
  rw [exec_tick_running hr, hd]
  rfl

/-- R215. -/
theorem exec_tick_pending {e : Event} (h : s.PendingDue e) : exec .tick s = .next (s.tickPending.dispatch e) := by
  obtain ⟨hr, hs, rfl, hn⟩ := h
  have hd : (s.withReply []).advanceTick.deriveEvent = (s.tickPending, s.pendingEvent) := by
    unfold State.deriveEvent
    rw [if_neg (by simp only [Bool.not_eq_true]; exact Timer.expired_eq_false hs), if_pos (by exact hn)]
    rfl
  rw [exec_tick_running hr, hd]

/-- R216. -/
theorem exec_tick_timeout (h : s.TimeoutDue) : exec .tick s = .next (s.tickTimeout.dispatch .timeout) := by
  obtain ⟨hr, hs, hp, ht⟩ := h
  have hd : (s.withReply []).advanceTick.deriveEvent = (s.tickTimeout, .timeout) := by
    unfold State.deriveEvent
    rw [if_neg (by simp only [Bool.not_eq_true]; exact Timer.expired_eq_false hs),
      if_neg (by simp [State.advanceTick, hp]), if_pos (by exact Timer.expired_eq_true ht)]
    unfold State.timeOut State.tickTimeout
    cases hl : s.loopbackPending <;> simp [State.advanceTick, State.disarmStateTimer, State.releaseLine, State.emit,
      State.withReply, Timer.disarm, inc32, hl]
  rw [exec_tick_running hr, hd]

/-- R217. -/
theorem exec_tick_nothing (h : s.NothingDue) :
    exec .tick s = .next { s with reply := [], tickCount := s.now } := by
  obtain ⟨hr, hs, hp, ht⟩ := h
  have hd : (s.withReply []).advanceTick.deriveEvent = ((s.withReply []).advanceTick, .none) := by
    unfold State.deriveEvent
    rw [if_neg (by simp only [Bool.not_eq_true]; exact Timer.expired_eq_false hs),
      if_neg (by simp [State.advanceTick, hp]),
      if_neg (by simp only [Bool.not_eq_true]; exact Timer.expired_eq_false ht)]
  rw [exec_tick_running hr, hd]
  rfl

/-- Everything a tick can find. -/
theorem tick_finds (s : State) :
    s.running = false ∨ s.NothingDue ∨ s.GarbageDue ∨ s.EchoDue ∨ (∃ k p, s.ReceiveDue k p) ∨
      (∃ e, s.PendingDue e) ∨ s.TimeoutDue := by
  cases hr : s.running with
  | false => exact .inl rfl
  | true =>
    refine .inr ?_
    by_cases hs : s.silence.Elapsed s.now
    · cases hl : s.loopbackPending with
      | true => exact .inr (.inr (.inl ⟨⟨hr, hs⟩, hl⟩))
      | false =>
        by_cases hk : (decodeFrame s.params s.rxFrame).1 = .none
        · exact .inr (.inl ⟨⟨hr, hs⟩, hl, hk⟩)
        · exact .inr (.inr (.inr (.inl ⟨_, _, ⟨hr, hs⟩, hl, rfl, hk⟩)))
    · by_cases hp : s.pendingEvent = .none
      · by_cases ht : s.stateTimer.Elapsed s.now
        · exact .inr (.inr (.inr (.inr (.inr ⟨hr, hs, hp, ht⟩))))
        · exact .inl ⟨hr, hs, hp, ht⟩
      · exact .inr (.inr (.inr (.inr (.inl ⟨_, hr, hs, rfl, hp⟩))))

/-! ## Dispatch -/

/-- FRAME, LOOPBACK and TIMEOUT never change the top state (43_engine.md R218). -/
theorem State.dispatch_here {ev : Event} (h : ev = .frame ∨ ev = .loopback ∨ ev = .timeout) :
    s.dispatch ev = s.handle ev := by
  rcases h with rfl | rfl | rfl <;> exact State.dispatch_stay (by decide) rfl

/-- A jump to another state: exit, entry, handler (R219, R220). -/
theorem dispatch_jump (h : s.nextState ≠ s.curState) :
    s.tickPending.dispatch .jumpState = (s.tickJump.entryHook s.nextState).handle .jumpState := by
  have hj : ({ s.tickPending.exitHook with curState := s.nextState } : State) = s.tickJump := by
    simp [State.tickJump, h, State.exitHook, State.disarmStateTimer, State.tickPending, Timer.disarm]
  rw [State.dispatch_change (by decide) (by exact h)]
  exact congrArg (fun u : State => (u.entryHook s.nextState).handle .jumpState) hj

/-- A jump to the current state: the handler alone (R219). -/
theorem dispatch_jump_here (h : s.nextState = s.curState) :
    s.tickPending.dispatch .jumpState = s.tickPending.handle .jumpState :=
  State.dispatch_stay (by decide) h

/-! ## The trace -/

/-- The direction discipline of a trace is that of its parts, one after the other. -/
theorem LinePhase.along_append (phase : LinePhase) (a b : List Action) :
    LinePhase.along phase (a ++ b) = (LinePhase.along phase a).bind fun next => LinePhase.along next b := by
  induction a generalizing phase with
  | nil => simp [LinePhase.along]
  | cons x xs ih => cases x <;> cases phase <;> simp [LinePhase.along, ih]

/-- A step that emits nothing and leaves the echo as it is. -/
theorem State.linePhase_congr {t : State} (h : t.loopbackPending = s.loopbackPending) : t.linePhase = s.linePhase := by
  unfold State.linePhase
  rw [h]

end Sys2Proof.Machine
end

