-- ==== Sys2Proof/Laws/Dispatch.lean ====
section
/-! SUPPORT. What the dispatch of an event can change, said once over every entry hook and every handler: the fields it
never writes, and what it can do to the channel slots. -/

namespace Sys2Proof.Machine

/-! ## The fields no hook and no handler writes -/

/-- The two states agree on the configuration, the counter, the receive buffer and the record of the last frame. -/
abbrev State.SameRecord (s t : State) : Prop :=
  t.role = s.role ∧ t.stationAddress = s.stationAddress ∧ t.running = s.running ∧ t.tickCount = s.tickCount ∧
  t.params = s.params ∧ t.input = s.input ∧ t.reply = s.reply ∧ t.rxBuf = s.rxBuf ∧ t.rxKind = s.rxKind ∧
  t.rxPacket = s.rxPacket ∧ t.msgCount = s.msgCount

theorem State.entryHook_sameRecord (s : State) (target : TopState) : s.SameRecord (s.entryHook target) := by
  unfold State.entryHook
  split <;> try simp only [masterPollEntry, slavePollEntry, masterSelectEntry, slaveSelectEntry, State.mirror,
    State.onChannel, slavePollData, slavePollNoData]
  all_goals (repeat' split)
  all_goals simp [State.SameRecord]

theorem masterIdle_sameRecord (s : State) (ev : Event) : s.SameRecord (masterIdle s ev) := by
  unfold masterIdle
  split
  · unfold State.schedule
    split
    · simp [State.SameRecord]
    · simp only [State.onChannel, State.visit, State.visitOnlinePoll, State.visitOffline]
      (repeat' split) <;> simp [State.SameRecord]
  · simp [State.SameRecord]

theorem slaveIdle_sameRecord (s : State) (ev : Event) : s.SameRecord (slaveIdle s ev) := by
  unfold slaveIdle
  split
  · unfold slaveIdleJump
    split <;> simp [State.SameRecord]
  · simp [State.SameRecord]

theorem masterPoll_sameRecord (s : State) (ev : Event) : s.SameRecord (masterPoll s ev) := by
  unfold masterPoll
  split <;> try simp only [masterPollSend, masterPollEcho, masterPollReply, masterPollUnanswered, masterPollFrame,
    masterPollEot, masterPollRespond, masterPollError, State.prepareReply, State.onChannel]
  all_goals (repeat' split)
  all_goals simp [State.SameRecord]

theorem slavePoll_sameRecord (s : State) (ev : Event) : s.SameRecord (slavePoll s ev) := by
  unfold slavePoll
  split <;> try simp only [slavePollSend, slavePollEcho, slavePollAck, slavePollNack, slavePollAbort,
    slavePollTimeout, slavePollFrame, State.prepareReply, State.onChannel]
  all_goals (repeat' split)
  all_goals simp [State.SameRecord]

theorem masterSelect_sameRecord (s : State) (ev : Event) : s.SameRecord (masterSelect s ev) := by
  unfold masterSelect
  split <;> try simp only [masterSelectEcho, masterSelectFrame, masterSelectAck, masterSelectNack,
    masterSelectOverrun, State.onChannel]
  all_goals (repeat' split)
  all_goals simp [State.SameRecord]

theorem slaveSelect_sameRecord (s : State) (ev : Event) : s.SameRecord (slaveSelect s ev) := by
  unfold slaveSelect
  split <;> try simp only [slaveSelectPoll, slaveSelectAnswer, slaveSelectData, slaveSelectError, slaveSelectFrame,
    slaveSelectDeadline, slaveSelectReply, State.mirror, State.prepareReply, State.onChannel]
  all_goals (repeat' split)
  all_goals simp [State.SameRecord]

theorem State.handle_sameRecord (s : State) (ev : Event) : s.SameRecord (s.handle ev) := by
  unfold State.handle
  split
  · unfold initHandler
    split <;> simp [State.SameRecord]
  · exact masterIdle_sameRecord s ev
  · exact slaveIdle_sameRecord s ev
  · exact masterPoll_sameRecord s ev
  · exact slavePoll_sameRecord s ev
  · exact masterSelect_sameRecord s ev
  · exact slaveSelect_sameRecord s ev

theorem State.changeTop_sameRecord (s : State) (target : TopState) : s.SameRecord (s.changeTop target) := by
  unfold State.changeTop
  split
  · simp [State.SameRecord]
  · simpa [State.SameRecord, State.exitHook] using
      State.entryHook_sameRecord { s.exitHook with curState := target } target

/-- The dispatch of an event writes none of these fields. -/
theorem State.dispatch_sameRecord (s : State) (ev : Event) : s.SameRecord (s.dispatch ev) := by
  unfold State.dispatch
  split
  · simp [State.SameRecord]
  · have h1 := State.changeTop_sameRecord s (s.resolve ev)
    have h2 := State.handle_sameRecord (s.changeTop (s.resolve ev)) ev
    simp only [State.SameRecord] at h1 h2 ⊢
    simp [h1, h2]

/-! ## What happens to the slots -/

/-- What one tick can make of the channel in a slot: the fixed fields stay, the lifecycle never returns to INIT
(10_state.md R59), the outbound queue stays or loses its head, the inbound queue stays or gains one packet. -/
structure Channel.Advances (c d : Channel) : Prop where
  address      : d.address = c.address
  pollActive   : d.pollActive = c.pollActive
  selectActive : d.selectActive = c.selectActive
  outCap       : d.outq.cap = c.outq.cap
  inCap        : d.inq.cap = c.inq.cap
  lifecycle    : d.state = .init → c.state = .init
  outq         : d.outq.items = c.outq.items ∨ ∃ q, c.outq.items = q :: d.outq.items
  inq          : d.inq.items = c.inq.items ∨ ∃ q, d.inq.items = c.inq.items ++ [q]

theorem Channel.Advances.refl (c : Channel) : c.Advances c :=
  ⟨rfl, rfl, rfl, rfl, rfl, id, .inl rfl, .inl rfl⟩

/-- No slot changed, or one occupied slot advanced. -/
def State.SlotsAdvance (s t : State) : Prop :=
  t.channels = s.channels ∨
    ∃ i c d, s.channel i = some c ∧ c.Advances d ∧ t.channels = s.channels.set i.val (some d) i.isLt

theorem State.SlotsAdvance.at {s t : State} (h : s.SlotsAdvance t) {j : Fin nCh} {c : Channel}
    (hc : s.channel j = some c) : ∃ d, t.channel j = some d ∧ c.Advances d := by
  rcases h with h | ⟨i, c', d, h1, h2, h3⟩
  · exact ⟨c, by unfold State.channel at *; rw [h]; exact hc, Channel.Advances.refl c⟩
  · by_cases e : j = i
    · subst e
      rw [hc] at h1
      cases h1
      exact ⟨d, by unfold State.channel; simp [h3], h2⟩
    · refine ⟨c, ?_, Channel.Advances.refl c⟩
      unfold State.channel at *
      simp only [h3]
      rw [Vector.getElem_set_ne]
      · exact hc
      · exact fun h => e (Fin.ext h.symm)

theorem State.SlotsAdvance.set {s t : State} {i : Fin nCh} {c d : Channel} (h : s.channel i = some c)
    (hd : c.Advances d) (ht : t.channels = s.channels.set i.val (some d) i.isLt) : s.SlotsAdvance t :=
  .inr ⟨i, c, d, h, hd, ht⟩

theorem Channel.advances_inq {c : Channel} {p : Packet} {q : Queue} (h : c.inq.put p = some q) {d : Channel}
    (ha : d.address = c.address) (hp : d.pollActive = c.pollActive) (hs : d.selectActive = c.selectActive)
    (ho : d.outq = c.outq) (hi : d.inq = q) (hl : d.state = .init → c.state = .init) : c.Advances d := by
  obtain ⟨_, rfl⟩ := Queue.put_eq_some.mp h
  exact ⟨ha, hp, hs, by rw [ho], by rw [hi], hl, .inl (by rw [ho]), .inr ⟨p, by rw [hi]⟩⟩

theorem Channel.advances_outq {c : Channel} {p : Packet} {q : Queue} (h : c.outq.get = some (p, q)) {d : Channel}
    (ha : d.address = c.address) (hp : d.pollActive = c.pollActive) (hs : d.selectActive = c.selectActive)
    (ho : d.outq = q) (hi : d.inq = c.inq) (hl : d.state = .init → c.state = .init) : c.Advances d := by
  obtain ⟨h1, h2⟩ := Queue.get_eq_some.mp h
  exact ⟨ha, hp, hs, by rw [ho, h2], by rw [hi], hl, .inr ⟨p, by rw [ho, h1]⟩, .inl (by rw [hi])⟩

theorem Channel.advances_idle {c d : Channel} (ha : d.address = c.address) (hp : d.pollActive = c.pollActive)
    (hs : d.selectActive = c.selectActive) (ho : d.outq = c.outq) (hi : d.inq = c.inq)
    (hl : d.state = .init → c.state = .init) : c.Advances d :=
  ⟨ha, hp, hs, by rw [ho], by rw [hi], hl, .inl (by rw [ho]), .inl (by rw [hi])⟩

/-- A rule that lets one slot advance without touching its queues. -/
theorem State.SlotsAdvance.set_idle {s t : State} {i : Fin nCh} {c d : Channel} (h : s.channel i = some c)
    (ht : t.channels = s.channels.set i.val (some d) i.isLt) (ha : d.address = c.address)
    (hp : d.pollActive = c.pollActive) (hs : d.selectActive = c.selectActive) (ho : d.outq = c.outq)
    (hi : d.inq = c.inq) (hl : d.state = .init → c.state = .init) : s.SlotsAdvance t :=
  .set h (Channel.advances_idle ha hp hs ho hi hl) ht

/-- A rule that puts a packet into the inbound queue of one slot. -/
theorem State.SlotsAdvance.set_inq {s t : State} {i : Fin nCh} {c d : Channel} {p : Packet} {q : Queue}
    (h : s.channel i = some c) (hq : c.inq.put p = some q)
    (ht : t.channels = s.channels.set i.val (some d) i.isLt) (ha : d.address = c.address)
    (hp : d.pollActive = c.pollActive) (hs : d.selectActive = c.selectActive) (ho : d.outq = c.outq)
    (hi : d.inq = q) (hl : d.state = .init → c.state = .init) : s.SlotsAdvance t :=
  .set h (Channel.advances_inq hq ha hp hs ho hi hl) ht

/-- A rule that takes a packet from the outbound queue of one slot. -/
theorem State.SlotsAdvance.set_outq {s t : State} {i : Fin nCh} {c d : Channel} {p : Packet} {q : Queue}
    (h : s.channel i = some c) (hq : c.outq.get = some (p, q))
    (ht : t.channels = s.channels.set i.val (some d) i.isLt) (ha : d.address = c.address)
    (hp : d.pollActive = c.pollActive) (hs : d.selectActive = c.selectActive) (ho : d.outq = q)
    (hi : d.inq = c.inq) (hl : d.state = .init → c.state = .init) : s.SlotsAdvance t :=
  .set h (Channel.advances_outq hq ha hp hs ho hi hl) ht

theorem State.entryHook_slotsAdvance (s : State) (target : TopState) : s.SlotsAdvance (s.entryHook target) := by
  unfold State.entryHook
  split <;> try simp only [masterPollEntry, slavePollEntry, masterSelectEntry, slaveSelectEntry, State.mirror,
    State.onChannel, slavePollData, slavePollNoData]
  all_goals (repeat' split)
  all_goals first
    | exact .inl rfl
    | (apply State.SlotsAdvance.set_outq; assumption; assumption; rfl; all_goals simp)

theorem State.visit_slotsAdvance {s : State} {i : Fin nCh} {c : Channel} (h : s.channel i = some c) :
    s.SlotsAdvance (s.visit i c) := by
  simp only [State.visit, State.visitOnlinePoll, State.visitOffline]
  (repeat' split)
  all_goals first
    | exact .inl rfl
    | (apply State.SlotsAdvance.set_idle; assumption; rfl; all_goals simp)

theorem masterIdle_slotsAdvance (s : State) (ev : Event) : s.SlotsAdvance (masterIdle s ev) := by
  unfold masterIdle
  split
  · unfold State.schedule
    split
    · exact .inl rfl
    · next r _ =>
      rcases State.onChannel_cases { s with curIndex := r, curValid := true } r
        (State.visit { s with curIndex := r, curValid := true } r) with ⟨_, h⟩ | ⟨c, hc, h⟩ <;> rw [h]
      · exact .inl rfl
      · exact State.visit_slotsAdvance hc
  · exact .inl rfl

theorem slaveIdle_slotsAdvance (s : State) (ev : Event) : s.SlotsAdvance (slaveIdle s ev) := by
  unfold slaveIdle
  split
  · unfold slaveIdleJump
    split
    · exact .inl rfl
    · apply State.SlotsAdvance.set_idle
      · assumption
      · rfl
      all_goals simp
  · exact .inl rfl

theorem masterPoll_slotsAdvance (s : State) (ev : Event) : s.SlotsAdvance (masterPoll s ev) := by
  unfold masterPoll
  split <;> try simp only [masterPollSend, masterPollEcho, masterPollReply, masterPollUnanswered, masterPollFrame,
    masterPollEot, masterPollRespond, masterPollError, State.prepareReply, State.onChannel]
  all_goals (repeat' split)
  all_goals first
    | exact .inl rfl
    | (apply State.SlotsAdvance.set_inq; assumption; assumption; rfl; all_goals simp)
    | (apply State.SlotsAdvance.set_idle; assumption; rfl; all_goals simp)
    | (apply State.SlotsAdvance.set_idle; assumption; rfl; iterate 5 simp
       unfold State.unansweredChannel; split <;> simp)

theorem slavePoll_slotsAdvance (s : State) (ev : Event) : s.SlotsAdvance (slavePoll s ev) := by
  unfold slavePoll
  split <;> try simp only [slavePollSend, slavePollEcho, slavePollAck, slavePollNack, slavePollAbort,
    slavePollTimeout, slavePollFrame, State.prepareReply, State.onChannel]
  all_goals (repeat' split)
  all_goals first
    | exact .inl rfl
    | (apply State.SlotsAdvance.set_idle; assumption; rfl; all_goals simp)

theorem masterSelect_slotsAdvance (s : State) (ev : Event) : s.SlotsAdvance (masterSelect s ev) := by
  unfold masterSelect
  split <;> try simp only [masterSelectEcho, masterSelectFrame, masterSelectAck, masterSelectNack,
    masterSelectOverrun, State.onChannel]
  all_goals (repeat' split)
  all_goals first
    | exact .inl rfl
    | (apply State.SlotsAdvance.set_idle; assumption; rfl; all_goals simp)

theorem slaveSelect_slotsAdvance (s : State) (ev : Event) : s.SlotsAdvance (slaveSelect s ev) := by
  unfold slaveSelect
  split <;> try simp only [slaveSelectPoll, slaveSelectAnswer, slaveSelectData, slaveSelectError, slaveSelectFrame,
    slaveSelectDeadline, slaveSelectReply, State.mirror, State.prepareReply, State.onChannel]
  all_goals (repeat' split)
  all_goals first
    | exact .inl rfl
    | (apply State.SlotsAdvance.set_inq; assumption; assumption; rfl; all_goals simp)
    | (apply State.SlotsAdvance.set_idle; assumption; rfl; all_goals simp)

theorem State.handle_slotsAdvance (s : State) (ev : Event) : s.SlotsAdvance (s.handle ev) := by
  unfold State.handle
  split
  · unfold initHandler
    split <;> exact .inl rfl
  · exact masterIdle_slotsAdvance s ev
  · exact slaveIdle_slotsAdvance s ev
  · exact masterPoll_slotsAdvance s ev
  · exact slavePoll_slotsAdvance s ev
  · exact masterSelect_slotsAdvance s ev
  · exact slaveSelect_slotsAdvance s ev

/-- The handlers of POLL and SELECT ignore the jump that brought the machine there (44_master.md R256, R263;
45_slave.md R291, R303). -/
theorem State.handle_jump {s : State} (h : s.curState = .poll ∨ s.curState = .select) : s.handle .jumpState = s := by
  unfold State.handle
  rcases h with h | h <;> rw [h] <;> cases s.role <;> simp only [masterPoll, slavePoll, masterSelect, slaveSelect] <;>
    split <;> simp_all

/-- The entry hooks leave the role and the top state alone. -/
theorem State.entryHook_curState (s : State) (target : TopState) : (s.entryHook target).curState = s.curState := by
  unfold State.entryHook
  split <;> try simp only [masterPollEntry, slavePollEntry, masterSelectEntry, slaveSelectEntry, State.mirror,
    State.onChannel, slavePollData, slavePollNoData]
  all_goals (repeat' split)
  all_goals simp

/-- One event changes at most one slot, and only as `Channel.Advances` says. -/
theorem State.dispatch_slotsAdvance (s : State) (ev : Event) : s.SlotsAdvance (s.dispatch ev) := by
  by_cases hn : ev = .none
  · subst hn
    exact .inl rfl
  · by_cases hs : s.resolve ev = s.curState
    · rw [State.dispatch_stay hn hs]
      exact State.handle_slotsAdvance s ev
    · rw [State.dispatch_change hn hs]
      generalize ht : s.resolve ev = target at hs
      have hc : ∀ u : State, u.channels = s.channels → ∀ v, u.SlotsAdvance v → s.SlotsAdvance v := by
        intro u hu v h
        unfold State.SlotsAdvance State.channel at *
        rw [hu] at h
        exact h
      cases target with
      | init => exact hc _ rfl _ (State.handle_slotsAdvance _ ev)
      | idle => exact hc _ rfl _ (State.handle_slotsAdvance _ ev)
      | poll =>
        have he : ev = .jumpState := by cases ev <;> simp_all [State.resolve]
        subst he
        rw [State.handle_jump (by rw [State.entryHook_curState]; exact .inl rfl)]
        exact hc { s.exitHook with curState := .poll } rfl _ (State.entryHook_slotsAdvance _ _)
      | select =>
        have he : ev = .jumpState := by cases ev <;> simp_all [State.resolve]
        subst he
        rw [State.handle_jump (by rw [State.entryHook_curState]; exact .inr rfl)]
        exact hc { s.exitHook with curState := .select } rfl _ (State.entryHook_slotsAdvance _ _)

end Sys2Proof.Machine
end

