-- ==== Sys2Proof/Laws/PerInstr.lean ====
section
/-! SUPPORT. A statement about every instruction as syntax, one lemma per constructor: how many bytes its encoding has
(spec/30_encoding.md R101 to R106 for the frames, R113 and R114 for the records). -/

namespace Sys2Proof.Laws

/-- The bytes of an encoded input. -/
def strobeBytes : Strobe → List Byte
  | .record bytes => bytes
  | .frame bytes => bytes

/-- The length 30_encoding.md gives the encoding of an instruction (R101 to R106, R114). -/
def encodedLength : Instr → Nat
  | .init _ _ => 3
  | .createChannel _ _ _ _ _ => 5
  | .start => 1
  | .send _ _ payload => 4 + payload.length
  | .receive _ => 2
  | .isDataAvailable _ => 2
  | .channelState _ => 2
  | .readStatus _ => 2
  | .readChannel _ _ => 3
  | .tick => 1
  | .rxByte _ => 2
  | .ack => 1
  | .nack => 1
  | .eot => 1
  | .poll _ => 3
  | .select _ _ payload => 6 + payload.length
  | .respond _ _ payload => 5 + payload.length

namespace EncodedLength

/-- The encoding of `i` has the length its format requires, whatever the parameters. -/
def Statement (i : Instr) : Prop := ∀ p : Params, (strobeBytes (encode p i)).length = encodedLength i

theorem init (r : Role) (a : Byte) : Statement (.init r a) := fun _ => rfl
theorem createChannel (a : Byte) (pa sa : Bool) (oc ic : Byte) : Statement (.createChannel a pa sa oc ic) :=
  fun _ => rfl
theorem start : Statement .start := fun _ => rfl
theorem send (id o : Byte) (payload : List Byte) : Statement (.send id o payload) := fun _ => by
  simp [encode, strobeBytes, encodedLength]; omega
theorem receive (id : Byte) : Statement (.receive id) := fun _ => rfl
theorem isDataAvailable (id : Byte) : Statement (.isDataAvailable id) := fun _ => rfl
theorem channelState (id : Byte) : Statement (.channelState id) := fun _ => rfl
theorem readStatus (s : Byte) : Statement (.readStatus s) := fun _ => rfl
theorem readChannel (id s : Byte) : Statement (.readChannel id s) := fun _ => rfl
theorem tick : Statement .tick := fun _ => rfl
theorem rxByte (b : Byte) : Statement (.rxByte b) := fun _ => rfl
theorem ack : Statement .ack := fun _ => rfl
theorem nack : Statement .nack := fun _ => rfl
theorem eot : Statement .eot := fun _ => rfl
theorem poll (a : Byte) : Statement (.poll a) := fun _ => rfl
theorem select (a o : Byte) (payload : List Byte) : Statement (.select a o payload) := fun _ => by
  simp [encode, strobeBytes, encodedLength, encodeFrame, frameBody]; omega
theorem respond (a o : Byte) (payload : List Byte) : Statement (.respond a o payload) := fun _ => by
  simp [encode, strobeBytes, encodedLength, encodeFrame, frameBody]; omega

end EncodedLength

end Sys2Proof.Laws
end

