-- ==== Sys2Proof/Tests/Slice0.lean ====
section
/-! SUPPORT. Tests and witnesses, all with the vector values of spec/00_scope.md R8. Expected values come from
spec/95_test_vectors.md or by hand from the tables of spec/30_encoding.md; each group names its source. A witness
theorem shows that the hypotheses of the obligation it is named after can be met together, clause by clause, at the
ends of the ranges; it states no result. -/

namespace Sys2Proof.Tests

open Sys2Proof.Machine

/-! # Small states -/

/-- The block right after reset. -/
def fresh : State := State.resetWith Params.vector

/-- A packet with `n` payload bytes. -/
def packet (n : Nat) : Packet := ⟨0x01#8, 0x10#8, List.replicate n 0xAA#8⟩

/-- A channel of address 0x01 with both roles and capacities 4 and 4. -/
def chan (st : ChannelState) (out inb : List Packet) : Channel :=
  { address := 0x01#8, pollActive := true, selectActive := true, state := st, notRespond := 0#8, retry := 0#8,
    preSelected := false, resync := ⟨false, 0#32, 0#32⟩, outq := ⟨4#8, out⟩, inq := ⟨4#8, inb⟩ }

/-- `fresh` with the channel `c` in slot `i`. -/
def oneChannel (i : Fin nCh) (c : Channel) : State := fresh.setChannel i c

/-- Every slot is occupied. -/
def full : State := { fresh with channels := Vector.replicate nCh (some (chan .init [] [])) }

/-- Every slot but the last is occupied. -/
def allButLast : State := { full with channels := full.channels.set 31 none }

/-- A running station in a top state, its channel `c` in slot 0; a slave has the address 0x01. -/
def station (r : Role) (top : TopState) (c : Channel) : State :=
  { oneChannel 0 c with role := r, stationAddress := 0x01#8, running := true, curState := top, curValid := true }

/-- The next tick completes the frame of these bytes. -/
def hears (s : State) (bytes : List Byte) : State :=
  { s with
    rxBuf := Buffer.writeFrom [] 0 bytes, rxCount := BitVec.ofNat 9 bytes.length, silence := ⟨true, 0#32, 1#32⟩ }

/-- The next tick completes an echo. -/
def echoes (s : State) : State := { hears s [0x04#8] with loopbackPending := true }

/-- The next tick consumes a jump. -/
def jumps (s : State) (target : TopState) : State := { s with pendingEvent := .jumpState, nextState := target }

/-- The next tick is the one at which the state timer expires. -/
def waits (s : State) : State := { s with stateTimer := ⟨true, 0#32, 1#32⟩ }

/-- One field of the next state. -/
def look {α : Type} (o : Host.Outcome State Fault Refusal) (f : State → α) : Option α :=
  match o with
  | .next t => some (f t)
  | .fault _ => none
  | .refused _ => none

/-! # WellFormed: each check refuses a term that breaks it (30_encoding.md R116, 40_codec.md R158) -/

theorem test_wf_send_length : (Instr.send 0x00#8 0x10#8 (List.replicate 256 0x00#8)).wellFormed = false := by
  rw [Instr.wellFormed, sendLengthOk, List.length_replicate]; decide
theorem test_wf_send_rejectable : (Instr.send 0x00#8 0x10#8 (List.replicate 51 0x00#8)).wellFormed = true := by decide
theorem test_wf_status_selector : (Instr.readStatus 0x0A#8).wellFormed = false := by decide
theorem test_wf_slot : (Instr.readChannel 0x20#8 0x00#8).wellFormed = false := by decide
theorem test_wf_channel_selector : (Instr.readChannel 0x00#8 0x04#8).wellFormed = false := by decide
theorem test_wf_select_payload :
    (Instr.select 0x01#8 0x10#8 (List.replicate 51 0x00#8)).wellFormed = false := by decide
theorem test_wf_respond_payload :
    (Instr.respond 0x01#8 0x10#8 (List.replicate 51 0x00#8)).wellFormed = false := by decide

/-! # Decoding of words written out from the tables of 30_encoding.md: every constructor -/

theorem test_decode_init : decodeRecord [0x01#8, 0x01#8, 0x19#8] = .ok (.init .slave 0x19#8) := by decide
theorem test_decode_create :
    decodeRecord [0x02#8, 0x01#8, 0x02#8, 0x04#8, 0x08#8] = .ok (.createChannel 0x01#8 false true 0x04#8 0x08#8) := by
  decide
theorem test_decode_start : decodeRecord [0x03#8] = .ok .start := by decide
theorem test_decode_send :
    decodeRecord [0x04#8, 0x00#8, 0x10#8, 0x02#8, 0xAA#8, 0xBB#8] = .ok (.send 0x00#8 0x10#8 [0xAA#8, 0xBB#8]) := by
  decide
theorem test_decode_receive : decodeRecord [0x05#8, 0x1F#8] = .ok (.receive 0x1F#8) := by decide
theorem test_decode_available : decodeRecord [0x06#8, 0x20#8] = .ok (.isDataAvailable 0x20#8) := by decide
theorem test_decode_state : decodeRecord [0x07#8, 0x07#8] = .ok (.channelState 0x07#8) := by decide
theorem test_decode_status : decodeRecord [0x08#8, 0x09#8] = .ok (.readStatus 0x09#8) := by decide
theorem test_decode_channel : decodeRecord [0x09#8, 0x1F#8, 0x03#8] = .ok (.readChannel 0x1F#8 0x03#8) := by decide
theorem test_decode_tick : decodeRecord [0x0A#8] = .ok .tick := by decide
theorem test_decode_rxByte : decodeRecord [0x0B#8, 0xFF#8] = .ok (.rxByte 0xFF#8) := by decide
theorem test_decode_ack : decodeWire Params.vector [0x06#8] = .ok .ack := by decide
theorem test_decode_nack : decodeWire Params.vector [0x15#8] = .ok .nack := by decide
theorem test_decode_eot : decodeWire Params.vector [0x04#8] = .ok .eot := by decide
theorem test_decode_poll : decodeWire Params.vector [0x04#8, 0x02#8, 0x05#8] = .ok (.poll 0x02#8) := by decide
theorem test_decode_select :
    decodeWire Params.vector [0x04#8, 0x02#8, 0x01#8, 0x10#8, 0x03#8, 0x03#8, 0x03#8, 0x12#8] =
      .ok (.select 0x01#8 0x10#8 [0x03#8, 0x03#8]) := by decide
theorem test_decode_respond :
    decodeWire Params.vector [0x02#8, 0x01#8, 0x20#8, 0x03#8, 0x03#8, 0x21#8] =
      .ok (.respond 0x01#8 0x20#8 [0x03#8]) := by decide

/-! # Rejected inputs (95_test_vectors.md H16 to H22 and section 2.1) -/

theorem test_reject_records :
    decodeRecord [0x00#8] = .error .unknownOpcode ∧ decodeRecord [0x0C#8] = .error .unknownOpcode ∧
    decodeRecord [0x01#8, 0x02#8, 0x00#8] = .error .badRole ∧
    decodeRecord [0x02#8, 0x01#8, 0x04#8, 0x04#8, 0x04#8] = .error .reservedFlags ∧
    decodeRecord [0x08#8, 0x0A#8] = .error .badStatusSelector ∧
    decodeRecord [0x09#8, 0x20#8, 0x00#8] = .error .badSlot ∧
    decodeRecord [0x09#8, 0x00#8, 0x04#8] = .error .badChannelSelector ∧
    decodeRecord [0x03#8, 0x00#8] = .error .wrongLength ∧ decodeRecord [] = .error .emptyRecord := by decide

theorem test_reject_frames :
    decodeWire Params.vector [0x06#8, 0x06#8] = .error .malformedFrame ∧
    decodeWire Params.vector [0x04#8, 0x01#8, 0x06#8] = .error .malformedFrame ∧
    decodeWire Params.vector [0x04#8, 0x02#8, 0x01#8, 0x03#8, 0x02#8] = .error .malformedFrame ∧
    decodeWire Params.vector [0x04#8, 0x02#8, 0x01#8, 0x10#8, 0x03#8, 0x13#8] = .error .badChecksum ∧
    decodeWire Params.vector [0x02#8, 0x01#8, 0x10#8, 0x03#8, 0x13#8] = .error .malformedFrame ∧
    decodeWire Params.vector [0x02#8, 0x05#8] = .error .malformedFrame := by decide

theorem test_longest_select :
    decodeFrame Params.vector (encodeFrame Params.vector (.select (packet 50))) = (.select, packet 50) ∧
    (encodeFrame Params.vector (.select (packet 50))).length = 56 ∧
    (decodeFrame Params.vector (encodeFrame Params.vector (.select (packet 51)))).1 = .none := by decide

/-! # The words of spec/opcode_table.json -/

theorem test_table_words :
    decodeTableWord 8 0x0A = some .tick ∧ decodeTableWord 8 0x15 = some .nack ∧
    decodeTableWord 24 0x040005 = some (.poll 0x00#8) ∧ decodeTableWord 8 0x00 = none := by decide

theorem test_fetch_runs_the_placed_word :
    look (step (fresh.withFetchWord 8 0x15)) (fun t => (t.rxFrame, t.input)) = some ([0x15#8], []) := by decide

/-! # One step of each instruction (95_test_vectors.md, the vector or program step named) -/

-- H24: INIT on a running bus.
theorem test_init : look (exec (.init .slave 0x19#8) (station .master .idle (chan .online [] [])))
    (fun t => (t.running, t.channel 0, t.role, t.stationAddress)) = some (false, none, .slave, 0x19#8) := by decide
-- Program P1, step 2; 42_registry.md R180: the 33rd creation.
theorem test_create : look (exec (.createChannel 0x01#8 true true 4#8 4#8) fresh) State.reply = some [0x00#8] := by
  decide
theorem test_create_full : look (exec (.createChannel 0x01#8 true true 4#8 4#8) full) State.reply = some [0xFF#8] := by
  decide
-- 46_host.md R323, H23.
theorem test_start : look (exec .start fresh) (fun t => (t.running, t.pendingEvent)) = some (true, .init) := by decide
theorem test_start_again :
    look (exec .start (station .master .poll (chan .online [] []))) State.pendingEvent = some .none := by decide
-- H9, H7.
theorem test_send : look (exec (.send 0x00#8 0x10#8 (packet 50).payload) (oneChannel 0 (chan .online [] [])))
    (fun t => (t.reply, (t.channel 0).map (fun c => c.outq.items))) = some ([0x00#8], some [packet 50]) := by decide
theorem test_send_offline : look (exec (.send 0x00#8 0x10#8 [0x01#8]) (oneChannel 0 (chan .init [] []))) State.reply =
    some [0x01#8] := by decide
-- Program P2, steps 13 and 14.
theorem test_receive :
    look (exec (.receive 0x00#8) (oneChannel 0 (chan .online [] [⟨0x01#8, 0x10#8, [0xAA#8, 0xBB#8]⟩]))) State.reply =
      some [0x01#8, 0x01#8, 0x10#8, 0x02#8, 0xAA#8, 0xBB#8] := by decide
theorem test_receive_empty :
    look (exec (.receive 0x00#8) (oneChannel 0 (chan .online [] []))) State.reply = some [0x00#8] := by decide
-- 46_host.md R328, H14.
theorem test_available :
    look (exec (.isDataAvailable 0x00#8) (oneChannel 0 (chan .offline [] [packet 0]))) State.reply =
      some [0x01#8] := by decide
theorem test_available_unknown : look (exec (.isDataAvailable 0x07#8) fresh) State.reply = some [0x00#8] := by decide
-- Program P2, step 15; H15.
theorem test_state : look (exec (.channelState 0x00#8) (oneChannel 0 (chan .online [] []))) State.reply =
    some [0x03#8] := by decide
theorem test_state_unknown : look (exec (.channelState 0x20#8) fresh) State.reply = some [0x00#8] := by decide
-- Program P1's end state, READ_STATUS 0x05 and 0x06.
def endOfP1 : State :=
  { station .master .idle (chan .online [] []) with
    pendingEvent := .jumpState, nextState := .poll, pollSub := .replyWait, selectSub := .replyAckWaitOrSendAckDelay,
    txLen := 8#9, rxKind := .ack }
theorem test_status_sm :
    look (exec (.readStatus 0x05#8) endOfP1) State.reply = some [0x49#8, 0x06#8, 0x09#8, 0x00#8] := by decide
theorem test_status_rx :
    look (exec (.readStatus 0x06#8) endOfP1) State.reply = some [0x00#8, 0x10#8, 0x00#8, 0x00#8] := by decide
-- H3, H4.
theorem test_channel_status :
    look (exec (.readChannel 0x00#8 0x00#8) (oneChannel 0 (chan .init [] []))) State.reply =
      some [0x1B#8, 0x01#8, 0x00#8, 0x00#8] := by decide
theorem test_channel_queues :
    look (exec (.readChannel 0x00#8 0x01#8) (oneChannel 0 (chan .init [] []))) State.reply =
      some [0x00#8, 0x04#8, 0x00#8, 0x04#8] := by decide
-- Program P1, t4 (the POLL goes out); program P4, t28 (the fourth NACK).
theorem test_tick_transmits_the_poll :
    look (exec .tick { waits (station .master .poll (chan .init [] [])) with
        txBuf := Buffer.writeFrom [] 0 [0x04#8, 0x01#8, 0x05#8], txLen := 3#9 })
      (fun t => (t.actions, t.pollSub, t.stateTimer)) =
      some ([.txMode, .transmit [0x04#8, 0x01#8, 0x05#8]], .sendWait, ⟨true, 1#32, 5#32⟩) := by decide
theorem test_tick_gives_up_after_the_fourth_nack :
    look (exec .tick { hears (station .master .select { chan .online [] [] with retry := 3#8 }) [0x15#8] with
        selectSub := .replyAckWaitOrSendAckDelay })
      (fun t => (t.errCount, t.overrunCount, t.pendingEvent, t.nextState)) =
      some (1#32, 0#32, .jumpState, .idle) := by decide
-- 46_host.md R333; 43_engine.md R221, the 257th byte.
theorem test_rxByte : look (exec (.rxByte 0x06#8) fresh) (fun t => (t.rxFrame, t.silence, t.actions)) =
    some ([0x06#8], ⟨true, 0#32, 2#32⟩, [.rxArm]) := by decide
theorem test_rxByte_overlong : look (exec (.rxByte 0x06#8) { fresh with rxCount := 256#9 })
    (fun t => (t.rxCount, t.rxBuf, t.silence.armed)) = some (256#9, [], true) := by decide
-- 30_encoding.md R101 to R106: what a frame leaves in the framer.
theorem test_ack : look (exec .ack fresh) State.rxFrame = some [0x06#8] := by decide
theorem test_nack : look (exec .nack fresh) State.rxFrame = some [0x15#8] := by decide
theorem test_eot : look (exec .eot fresh) State.rxFrame = some [0x04#8] := by decide
theorem test_poll : look (exec (.poll 0x19#8) fresh) State.rxFrame = some [0x04#8, 0x19#8, 0x05#8] := by decide
theorem test_select : look (exec (.select 0x01#8 0x10#8 []) fresh) State.rxFrame =
    some [0x04#8, 0x02#8, 0x01#8, 0x10#8, 0x03#8, 0x12#8] := by decide
theorem test_respond : look (exec (.respond 0x01#8 0x20#8 []) fresh) State.rxFrame =
    some [0x02#8, 0x01#8, 0x20#8, 0x03#8, 0x22#8] := by decide

/-! # Witnesses: encodings -/

theorem witness_DecodeOfEncodeIsTheInstruction :
    Params.vector.CodesDistinct ∧ (Instr.select 0xFF#8 0x03#8 (List.replicate 50 0x03#8)).wellFormed = true ∧
    (Instr.readChannel 0x1F#8 0x03#8).wellFormed = true ∧ (Instr.readStatus 0x09#8).wellFormed = true ∧
    (Instr.send 0xFF#8 0x00#8 []).wellFormed = true := by decide

theorem witness_AcceptedInputHasOneSpelling :
    decodeStrobe Params.vector (.record [0x09#8, 0x1F#8, 0x03#8]) = .ok (.readChannel 0x1F#8 0x03#8) ∧
    decodeStrobe Params.vector (.frame [0x04#8, 0xFF#8, 0x05#8]) = .ok (.poll 0xFF#8) := by decide

theorem witness_CodecRoundTrip :
    Params.vector.CodesDistinct ∧ (packet 0).payload.length ≤ 50 ∧ (packet 50).payload.length ≤ 50 := by decide

theorem witness_SingleByteCorruptionIsDetected :
    Params.vector.CodesDistinct ∧ (packet 50).payload.length ≤ 50 ∧
    0xFE#8 ≠ (selectBytes Params.vector (packet 50)).getD 2 0x00#8 ∧
    (53 ≤ (packet 50).payload.length + 3 ∧ 0x55#8 ≠ (selectBytes Params.vector (packet 50)).getD 53 0x00#8) ∧
    (54 = (packet 50).payload.length + 4 ∧ 0xFC#8 ≠ Params.vector.ccEtx) ∧
    (55 = (packet 50).payload.length + 5 ∧ 0x00#8 ≠ (selectBytes Params.vector (packet 50)).getD 55 0x00#8) ∧
    0x03#8 ≠ 0x02#8 ∧ 0x02#8 ≠ Params.vector.ccEot ∧
    0xFE#8 ≠ (respondBytes Params.vector (packet 50)).getD 1 0x00#8 ∧
    (54 ≤ (packet 50).payload.length + 4 ∧ 0x01#8 ≠ (respondBytes Params.vector (packet 50)).getD 54 0x00#8) := by
  decide

/-- The second part: damaged frames of the shortest and the longest length, and SELECT shapes of 4 and 5 bytes. -/
theorem witness_SingleByteCorruptionIsDetected_shapes :
    Params.vector.CodesDistinct ∧
    DamagedSelect Params.vector [0x04#8, 0x02#8, 0x01#8, 0x10#8, 0x03#8, 0x13#8] ∧
    DamagedSelect Params.vector ((selectBytes Params.vector (packet 50)).set 55 0x00#8) ∧
    (∀ f ∈ [[0x04#8, 0x02#8, 0x03#8, 0x00#8], [0x04#8, 0x02#8, 0x01#8, 0x03#8, 0x00#8]],
      (f.length = 4 ∨ f.length = 5) ∧ f.getD 0 0x00#8 = Params.vector.ccEot ∧ f.getD 1 0x00#8 = 0x02#8) := by
  decide

/-- The SELECT of 40_codec.md R154's example with an ACK merged into it, by R150: ETX at index 7, the check fails. -/
theorem test_decode_merged :
    (decodeFrame Params.vector [0x04#8, 0x02#8, 0x01#8, 0x10#8, 0xAA#8, 0xBB#8, 0x03#8, 0x03#8, 0x06#8]).1 = .error ∧
    (decodeFrame Params.vector [0x04#8, 0x02#8, 0x05#8, 0x02#8, 0x02#8, 0x20#8, 0x03#8, 0x21#8]).1 = .error := by
  decide

/-- The SELECT of 40_codec.md R154's example with its last byte damaged. -/
theorem test_decode_error_packet :
    decodeFrame Params.vector [0x04#8, 0x02#8, 0x01#8, 0x10#8, 0xAA#8, 0xBB#8, 0x03#8, 0x00#8] =
      (.error, ⟨0x01#8, 0x10#8, [0xAA#8, 0xBB#8]⟩) := by decide

theorem witness_ChecksumIsAnOrderFreeXor :
    [0x01#8, 0x10#8, 0x03#8].Perm [0x03#8, 0x01#8, 0x10#8] ∧
    (2 < [0x01#8, 0x10#8, 0x03#8].length ∧ 0x00#8 ≠ [0x01#8, 0x10#8, 0x03#8].getD 2 0x00#8) := by decide

theorem witness_IllegalRecordIsAnsweredAndChangesNothing_illegal :
    (∀ f ∈ [[], [0x00#8], [0x0C#8], [0xFF#8], [0x03#8, 0x00#8], [0x04#8, 0x00#8, 0x10#8, 0x02#8, 0xAA#8],
        [0x01#8, 0x02#8, 0x00#8], [0x02#8, 0x01#8, 0x04#8, 0x04#8, 0x04#8], [0x08#8, 0x0A#8],
        [0x09#8, 0x20#8, 0x00#8], [0x09#8, 0x00#8, 0x04#8]], IllegalRecord f) ∧
    ({ fresh with input := [.record [0x0C#8]] } : State).input = .record [0x0C#8] :: [] := by decide

theorem witness_IllegalRecordIsAnsweredAndChangesNothing_legal :
    (∀ f ∈ [[0x0A#8], [0x01#8, 0x01#8, 0xFF#8], [0x08#8, 0x09#8], [0x09#8, 0x1F#8, 0x03#8],
        [0x02#8, 0x01#8, 0x03#8, 0x00#8, 0xFF#8], [0x04#8, 0x20#8, 0x10#8, 0x00#8]], ¬ IllegalRecord f) ∧
    ({ fresh with input := [.record [0x0A#8]] } : State).input = .record [0x0A#8] :: [] := by decide

/-! # Witnesses: the step, reset -/

theorem witness_StepRunsTheDecodedInstruction :
    ({ fresh with input := [.record [0x0A#8], .frame [0x06#8]] } : State).input =
      .record [0x0A#8] :: [.frame [0x06#8]] ∧
    decodeStrobe fresh.params (.record [0x0A#8]) = .ok .tick ∧
    decodeStrobe fresh.params (.frame [0x06#8]) = .ok .ack := by decide

theorem witness_StepWithoutAnInstruction :
    fresh.input = [] ∧ ({ fresh with input := [.frame [0x02#8, 0x05#8]] } : State).input = [.frame [0x02#8, 0x05#8]] ∧
    decodeWire fresh.params [0x02#8, 0x05#8] = .error .malformedFrame := by decide

/-! # Witnesses: host commands -/

theorem witness_CreateChannelTakesTheLowestFreeSlot :
    (CapacityLegal fresh.params 0x01#8 ∧ CapacityLegal fresh.params 0x10#8 ∧ fresh.channel 0 = none) ∧
    (allButLast.channel 31 = none ∧ ∀ j : Fin nCh, j < 31 → (allButLast.channel j).isSome = true) ∧
    ¬ CapacityLegal fresh.params 0x00#8 ∧ ¬ CapacityLegal fresh.params 0x03#8 ∧
    ¬ CapacityLegal fresh.params 0x20#8 ∧ ∀ i : Fin nCh, (full.channel i).isSome = true := by decide

theorem witness_StartRunsTheBusOnce :
    fresh.running = false ∧ (station .slave .idle (chan .init [] [])).running = true := by decide

/-- Three packets of a capacity of four, in the last slot: accepted. -/
theorem witness_SendQueuesOrRejects_accepted :
    (packet 50).payload.length ≤ 50 ∧ (0x1F#8).toNat = (31 : Fin nCh).val ∧
    (oneChannel 31 (chan .online (List.replicate 3 (packet 0)) [])).channel 31 =
      some (chan .online (List.replicate 3 (packet 0)) []) ∧
    (chan .online (List.replicate 3 (packet 0)) []).state = .online ∧
    (chan .online (List.replicate 3 (packet 0)) []).outq.items.length ≠
      (chan .online (List.replicate 3 (packet 0)) []).outq.cap.toNat := by decide

theorem witness_SendQueuesOrRejects_rejected :
    50 < (packet 51).payload.length ∧ 32 ≤ (0x20#8).toNat ∧
    ((0x00#8).toNat = (0 : Fin nCh).val ∧ fresh.channel 0 = none) ∧
    ((oneChannel 0 (chan .offline [] [])).channel 0 = some (chan .offline [] []) ∧
      (chan .offline [] []).state ≠ .online) ∧
    ((oneChannel 0 (chan .online (List.replicate 4 (packet 0)) [])).channel 0 =
        some (chan .online (List.replicate 4 (packet 0)) []) ∧
      (chan .online (List.replicate 4 (packet 0)) []).outq.items.length =
        (chan .online (List.replicate 4 (packet 0)) []).outq.cap.toNat) := by decide

theorem witness_ReceiveReturnsTheHead :
    ((0x1F#8).toNat = (31 : Fin nCh).val ∧
      (oneChannel 31 (chan .offline [] [packet 50, packet 0])).channel 31 =
        some (chan .offline [] [packet 50, packet 0]) ∧
      (chan .offline [] [packet 50, packet 0]).inq.items = packet 50 :: [packet 0]) ∧
    32 ≤ (0x20#8).toNat ∧ fresh.channel 31 = none ∧
    ((oneChannel 31 (chan .online [] [])).channel 31 = some (chan .online [] []) ∧
      (chan .online [] []).inq.items = []) := by decide

theorem witness_ChannelQueriesReply :
    ((0x1F#8).toNat = (31 : Fin nCh).val ∧
      (oneChannel 31 (chan .offline [] [packet 0])).channel 31 = some (chan .offline [] [packet 0])) ∧
    32 ≤ (0x20#8).toNat ∧ fresh.channel 31 = none := by decide

theorem witness_ReadStatusWords :
    (0x00#8).toNat ≤ 0x09 ∧ (0x09#8).toNat ≤ 0x09 ∧ 0x09 < (0x0A#8).toNat := by decide

theorem witness_ReadChannelWords :
    ((0x1F#8).toNat = (31 : Fin nCh).val ∧
      (oneChannel 31 (chan .online [] [])).channel 31 = some (chan .online [] []) ∧ (0x03#8).toNat ≤ 0x03) ∧
    fresh.channel 31 = none ∧ 0x1F < (0x20#8).toNat ∧ 0x03 < (0x04#8).toNat := by decide

theorem witness_HostCommandsLeaveTheEngineAlone :
    isQuietCommand (.send 0x00#8 0x10#8 []) = true ∧ Instr.send 0x00#8 0x10#8 [] ≠ .start ∧
    isQuietCommand .start = true := by decide

/-! # Witnesses: the byte input and the tick -/

theorem witness_ReceivedByteIsStoredAndRearms :
    fresh.rxBuf.wf = true ∧ fresh.rxCount.toNat < 256 ∧ ({ fresh with rxCount := 255#9 } : State).rxCount.toNat < 256 ∧
    256 ≤ ({ fresh with rxCount := 256#9 } : State).rxCount.toNat ∧
    56 < (List.replicate 57 0x06#8).length := by decide

theorem witness_WireFrameDeliversItsBytes :
    wireBytes fresh.params (.select 0x01#8 0x10#8 []) = some [0x04#8, 0x02#8, 0x01#8, 0x10#8, 0x03#8, 0x12#8] ∧
    wireBytes fresh.params .ack = some [0x06#8] ∧ fresh.rxBuf.wf = true ∧ fresh.rxCount.toNat ≤ 256 ∧
    ({ fresh with rxCount := 256#9 } : State).rxCount.toNat ≤ 256 := by decide

/-- A running slave that waits for a frame. -/
def listener : State := station .slave .select (chan .online [] [])

/-- A running master that waits for the answer to a POLL. -/
def poller : State := { station .master .poll (chan .online [] []) with pollSub := .replyWait }

/-- A running master that waits for the answer to a SELECT. -/
def selecter : State := { station .master .select (chan .online [] []) with selectSub := .replyAckWaitOrSendAckDelay }

/-- A running slave that waits for the answer to its RESPOND. -/
def responder : State := { station .slave .poll (chan .online [] []) with pollSub := .replyWait }

/-- A SELECT frame for the slave 0x01, and the same frame damaged. -/
def selectFrame : List Byte := [0x04#8, 0x02#8, 0x01#8, 0x10#8, 0x03#8, 0x12#8]
def damagedFrame : List Byte := [0x04#8, 0x02#8, 0x01#8, 0x10#8, 0x03#8, 0x13#8]

theorem witness_TickWithoutAnEvent :
    fresh.running = false ∧ listener.NothingDue ∧
    ({ listener with stateTimer := ⟨true, 0#32, 2#32⟩, silence := ⟨true, 0#32, 2#32⟩ } : State).NothingDue ∧
    (hears listener [0x02#8, 0x05#8]).GarbageDue := by decide

theorem witness_TickCountsAndKeepsTheConfiguration :
    listener.running = true ∧ ({ listener with tickCount := 0xFFFFFFFF#32 } : State).running = true := by decide

theorem witness_FrameIsRecordedAndCounted :
    (hears listener damagedFrame).ReceiveDue .error ⟨0x01#8, 0x10#8, []⟩ ∧
    (hears listener selectFrame).ReceiveDue .select ⟨0x01#8, 0x10#8, []⟩ ∧
    (hears listener [0x15#8]).ReceiveDue .nack ⟨0x00#8, 0x00#8, []⟩ := by decide

theorem witness_EchoAndTimeoutReleaseTheLine :
    (echoes poller).EchoDue ∧
    (({ waits poller with loopbackPending := true } : State).TimeoutDue ∧
      ({ waits poller with loopbackPending := true } : State).loopbackPending = true) := by decide

/-- A running station in INIT. -/
def starter : State := station .slave .init (chan .init [] [])

theorem witness_InitEventStartsTheProtocol :
    ({ starter with pendingEvent := .init } : State).PendingDue .init ∧ starter.curState = .init ∧
    (echoes starter).EchoDue ∧ (hears starter [0x06#8]).ReceiveDue .ack ⟨0x00#8, 0x00#8, []⟩ ∧
    (waits starter).TimeoutDue ∧ (jumps starter .init).PendingDue .jumpState ∧
    (jumps starter .init).nextState = .init := by decide

/-! # Witnesses: the master -/

/-- A master whose next tick runs the scheduler with the channel `c` alone. -/
def schedules (c : Channel) : State := jumps (station .master .poll c) .idle

theorem witness_MasterSchedulerVisitsOneChannel :
    (let s : State := { schedules (chan .init [] []) with channels := fresh.channels };
      s.role = .master ∧ s.PendingDue .jumpState ∧ s.nextState = .idle ∧ ∀ i : Fin nCh, s.channel i = none) ∧
    (∀ c ∈ [chan .init [] [], chan .online [packet 0] [],
        { chan .online [packet 0] [] with preSelected := true, pollActive := false },
        { chan .online [packet 0] [] with preSelected := true },
        { chan .online [] [] with pollActive := false, resync := ⟨true, 0#32, 1#32⟩ },
        { chan .online [] [] with pollActive := false, resync := ⟨true, 0#32, 2#32⟩ },
        { chan .offline [] [] with resync := ⟨true, 0#32, 1#32⟩ }, chan .offline [] []],
      (schedules c).role = .master ∧ (schedules c).PendingDue .jumpState ∧ (schedules c).nextState = .idle ∧
        (schedules c).advanceRoundRobin = some 0 ∧ (schedules c).channel 0 = some c) ∧
    (Timer.Elapsed ⟨true, 0#32, 1#32⟩ (schedules (chan .offline [] [])).now ∧
      ¬ Timer.Elapsed ⟨true, 0#32, 2#32⟩ (schedules (chan .offline [] [])).now) := by decide

theorem witness_MasterPollTransmits :
    (let s := jumps (station .master .idle (chan .init [] [])) .poll;
      s.role = .master ∧ s.PendingDue .jumpState ∧ s.nextState = .poll ∧ s.curState ≠ .poll ∧
        s.channel s.curIndex = some (chan .init [] [])) ∧
    (let s := waits (station .master .poll (chan .init [] []));
      s.curState = .poll ∧ s.pollSub = .sendDelay ∧ s.TimeoutDue) ∧
    (let s := { echoes poller with pollSub := .sendWait };
      s.curState = .poll ∧ s.pollSub = .sendWait ∧ s.EchoDue) ∧
    (let s := { waits poller with pollSub := .sendAckDelay };
      s.curState = .poll ∧ s.pollSub = .sendAckDelay ∧ s.TimeoutDue) := by decide

/-- The reply of a master's POLL is overdue; the channel counts `n` unanswered polls. -/
def overdue (n : Byte) : State :=
  { waits (station .master .poll { chan .online [] [] with notRespond := n }) with pollSub := .replyWait }

theorem witness_MasterCountsAnUnansweredPoll :
    (∀ n ∈ [0x01#8, 0x02#8, 0xFF#8],
      (overdue n).role = .master ∧ (overdue n).curState = .poll ∧ (overdue n).TimeoutDue ∧
        (overdue n).pollSub = .replyWait ∧
        (overdue n).channel (overdue n).curIndex = some { chan .online [] [] with notRespond := n }) ∧
    ((0x02#8).toNat = min ((0x01#8).toNat + 1) 255 ∧ (0x02#8).toNat < 3) ∧
    ((0x03#8).toNat = min ((0x02#8).toNat + 1) 255 ∧ 3 ≤ (0x03#8).toNat) ∧
    (0xFF#8).toNat = min ((0xFF#8).toNat + 1) 255 := by decide

theorem witness_MasterTakesAnEotOrADamagedFrame :
    (let s := hears poller [0x04#8];
      s.role = .master ∧ s.curState = .poll ∧ s.pollSub = .replyWait ∧ s.ReceiveDue .eot ⟨0x00#8, 0x00#8, []⟩ ∧
        s.channel s.curIndex = some (chan .online [] [])) ∧
    (hears poller damagedFrame).ReceiveDue .error ⟨0x01#8, 0x10#8, []⟩ := by decide

/-- A RESPOND of station 0x01 reaches a master whose inbound queue holds `inb`. -/
def answered (inb : List Packet) : State :=
  { hears (station .master .poll (chan .online [] inb)) [0x02#8, 0x01#8, 0x10#8, 0x03#8, 0x12#8] with
    pollSub := .replyWait }

theorem witness_MasterTakesARespond :
    (∀ inb ∈ [List.replicate 3 (packet 0), List.replicate 4 (packet 0)],
      (answered inb).role = .master ∧ (answered inb).curState = .poll ∧ (answered inb).pollSub = .replyWait ∧
        (answered inb).ReceiveDue .respond ⟨0x01#8, 0x10#8, []⟩ ∧
        (answered inb).channel (answered inb).curIndex = some (chan .online [] inb)) ∧
    addrOk 0x01#8 0x01#8 = true ∧
    (chan .online [] (List.replicate 3 (packet 0))).inq.items.length ≠
      (chan .online [] (List.replicate 3 (packet 0))).inq.cap.toNat ∧
    (chan .online [] (List.replicate 4 (packet 0))).inq.items.length =
      (chan .online [] (List.replicate 4 (packet 0))).inq.cap.toNat := by decide

theorem witness_MasterTakesARespond_of_another_station :
    (hears poller [0x02#8, 0x02#8, 0x10#8, 0x03#8, 0x11#8]).ReceiveDue .respond ⟨0x02#8, 0x10#8, []⟩ ∧
    addrOk 0x01#8 0x02#8 = false := by decide

theorem witness_MasterSelectEntryTransmits :
    (let s := jumps (station .master .idle (chan .online [packet 50] [])) .select;
      s.role = .master ∧ s.PendingDue .jumpState ∧ s.nextState = .select ∧ s.curState ≠ .select ∧
        s.channel s.curIndex = some (chan .online [packet 50] []) ∧
        (chan .online [packet 50] []).outq.items = packet 50 :: [] ∧ (packet 50).payload.length ≤ 50 ∧
        s.txBuf.wf = true) ∧
    (let s := jumps (station .master .idle (chan .online [] [])) .select;
      s.PendingDue .jumpState ∧ s.channel s.curIndex = some (chan .online [] []) ∧
        (chan .online [] []).outq.items = []) := by decide

theorem witness_MasterSelectEnds :
    (let s := { echoes selecter with selectSub := .sendWaitOrReceiveWait };
      s.role = .master ∧ s.curState = .select ∧ s.EchoDue ∧ s.selectSub = .sendWaitOrReceiveWait) ∧
    (let s := hears selecter [0x06#8];
      s.ReceiveDue .ack ⟨0x00#8, 0x00#8, []⟩ ∧ s.selectSub = .replyAckWaitOrSendAckDelay) ∧
    (waits selecter).TimeoutDue := by decide

theorem witness_MasterSelectRetriesOnNack :
    (let s := hears selecter [0x15#8];
      s.role = .master ∧ s.curState = .select ∧ s.selectSub = .replyAckWaitOrSendAckDelay ∧
        s.ReceiveDue .nack ⟨0x00#8, 0x00#8, []⟩ ∧ s.channel s.curIndex = some (chan .online [] [])) ∧
    (∀ c ∈ [{ chan .online [] [] with retry := 2#8 }, { chan .online [] [] with retry := 3#8 }],
      ((hears selecter [0x15#8]).setChannel 0 c).channel 0 = some c) ∧
    (2#8).toNat < 3 ∧ 3 ≤ (3#8).toNat := by decide

theorem witness_MasterIgnoresEveryOtherEvent :
    ((echoes poller).role = .master ∧ (echoes poller).EchoDue ∧
      ¬ ((echoes poller).curState = .poll ∧ (echoes poller).pollSub = .sendWait) ∧
      ¬ ((echoes poller).curState = .select ∧ (echoes poller).selectSub = .sendWaitOrReceiveWait)) ∧
    (hears poller [0x06#8]).ReceiveDue .ack ⟨0x00#8, 0x00#8, []⟩ ∧
    ((waits (station .master .idle (chan .init [] []))).TimeoutDue ∧
      (waits (station .master .idle (chan .init [] []))).curState = .idle) ∧
    ((jumps poller .poll).PendingDue .jumpState ∧ (jumps poller .poll).nextState = (jumps poller .poll).curState) := by
  decide

/-! # Witnesses: the slave -/

theorem witness_SlaveGoesToSelect :
    (let s := { jumps (station .slave .init (chan .init [] [])) .idle with channels := fresh.channels };
      s.role = .slave ∧ s.PendingDue .jumpState ∧ s.nextState = .idle ∧ s.channel 0 = none) ∧
    (let s := jumps (station .slave .init (chan .init [] [])) .idle;
      s.nextState = .idle ∧ s.channel 0 = some (chan .init [] [])) ∧
    (let s := jumps (station .slave .idle (chan .init [] [])) .select;
      s.PendingDue .jumpState ∧ s.nextState = .select ∧ s.curState ≠ .select ∧
        s.channel 0 = some (chan .init [] [])) := by decide

theorem witness_SlaveAnswersItsOwnPollOrDamagedFrame :
    (let s := hears listener [0x04#8, 0x01#8, 0x05#8];
      s.role = .slave ∧ s.curState = .select ∧ s.selectSub = .sendWaitOrReceiveWait ∧
        s.ReceiveDue .poll ⟨0x01#8, 0x00#8, []⟩ ∧ s.channel 0 = some (chan .online [] []) ∧
        addrOk s.stationAddress 0x01#8 = true ∧ isReply s.stationAddress 0x01#8 = true) ∧
    (hears listener damagedFrame).ReceiveDue .error ⟨0x01#8, 0x10#8, []⟩ ∧
    ((hears listener [0x04#8, 0x02#8, 0x05#8]).ReceiveDue .poll ⟨0x02#8, 0x00#8, []⟩ ∧
      addrOk listener.stationAddress 0x02#8 = false) ∧
    ((hears listener [0x04#8, 0x09#8, 0x05#8]).ReceiveDue .poll ⟨0x09#8, 0x00#8, []⟩ ∧
      isReply listener.stationAddress 0x09#8 = false) := by decide

theorem witness_SlaveTakesASelect :
    (let s := hears listener selectFrame;
      s.role = .slave ∧ s.curState = .select ∧ s.selectSub = .sendWaitOrReceiveWait ∧
        s.ReceiveDue .select ⟨0x01#8, 0x10#8, []⟩ ∧ s.channel 0 = some (chan .online [] []) ∧
        addrOk s.stationAddress 0x01#8 = true ∧ isReply s.stationAddress 0x01#8 = true) ∧
    (let c := chan .online [] (List.replicate 4 (packet 0));
      ((hears listener selectFrame).setChannel 0 c).channel 0 = some c ∧
        c.inq.items.length = c.inq.cap.toNat) ∧
    ((hears listener [0x04#8, 0x02#8, 0x09#8, 0x10#8, 0x03#8, 0x1A#8]).ReceiveDue .select ⟨0x09#8, 0x10#8, []⟩ ∧
      addrOk listener.stationAddress 0x09#8 = true ∧ isReply listener.stationAddress 0x09#8 = false) ∧
    ((hears listener [0x04#8, 0x02#8, 0x02#8, 0x10#8, 0x03#8, 0x11#8]).ReceiveDue .select ⟨0x02#8, 0x10#8, []⟩ ∧
      addrOk listener.stationAddress 0x02#8 = false) := by decide

theorem witness_SlaveSelectTimeouts :
    (let s := waits listener;
      s.role = .slave ∧ s.curState = .select ∧ s.TimeoutDue ∧ s.channel 0 = some (chan .online [] []) ∧
        s.selectSub = .sendWaitOrReceiveWait) ∧
    (let s := waits { listener with selectSub := .replyAckWaitOrSendAckDelay };
      s.TimeoutDue ∧ s.selectSub = .replyAckWaitOrSendAckDelay) := by decide

theorem witness_SlavePollEntryBuildsTheAnswer :
    (let s := jumps (station .slave .select (chan .online [packet 50] [])) .poll;
      s.role = .slave ∧ s.PendingDue .jumpState ∧ s.nextState = .poll ∧ s.curState ≠ .poll ∧
        s.channel 0 = some (chan .online [packet 50] []) ∧
        (chan .online [packet 50] []).outq.items = packet 50 :: [] ∧
        (chan .online [packet 50] []).pollActive = true) ∧
    (∀ c ∈ [chan .online [] [], { chan .online [packet 0] [] with pollActive := false }],
      let s := jumps (station .slave .select c) .poll;
      s.PendingDue .jumpState ∧ s.channel 0 = some c ∧ (c.outq.items = [] ∨ c.pollActive = false)) := by decide

theorem witness_SlavePollTransmits :
    (let s := waits { responder with pollSub := .sendDelay };
      s.role = .slave ∧ s.curState = .poll ∧ s.TimeoutDue ∧ s.pollSub = .sendDelay) ∧
    (let s := { echoes responder with pollSub := .sendWait, txLen := 2#9 };
      s.EchoDue ∧ s.pollSub = .sendWait ∧ 1 < s.txLen.toNat) ∧
    (let s := { echoes responder with pollSub := .sendWait, txLen := 1#9 };
      s.EchoDue ∧ s.pollSub = .sendWait ∧ s.txLen.toNat = 1) := by decide

theorem witness_SlavePollTakesAckAndNack :
    (let s := hears responder [0x06#8];
      s.role = .slave ∧ s.curState = .poll ∧ s.pollSub = .replyWait ∧ s.channel 0 = some (chan .online [] []) ∧
        s.ReceiveDue .ack ⟨0x00#8, 0x00#8, []⟩) ∧
    (∀ c ∈ [{ chan .online [] [] with retry := 2#8 }, { chan .online [] [] with retry := 3#8 }],
      let s := (hears responder [0x15#8]).setChannel 0 c;
      s.ReceiveDue .nack ⟨0x00#8, 0x00#8, []⟩ ∧ s.channel 0 = some c) ∧
    (2#8).toNat < 3 ∧ 3 ≤ (3#8).toNat := by decide

theorem witness_SlavePollBreaksOff :
    (let s := hears responder [0x04#8, 0x02#8, 0x05#8];
      s.role = .slave ∧ s.curState = .poll ∧ s.pollSub = .replyWait ∧ s.ReceiveDue .poll ⟨0x02#8, 0x00#8, []⟩) ∧
    ((waits responder).TimeoutDue ∧ (waits responder).channel 0 = some (chan .online [] []) ∧
      (0x01#8).toNat = min ((chan .online [] []).notRespond.toNat + 1) 255) ∧
    (let s := waits { responder with pollSub := .sendWait };
      s.pollSub = .sendWait ∧ s.TimeoutDue) := by decide

theorem witness_SlaveIgnoresEveryOtherEvent :
    ((echoes listener).role = .slave ∧ (echoes listener).EchoDue ∧ (echoes listener).curState ≠ .poll) ∧
    (hears listener [0x06#8]).ReceiveDue .ack ⟨0x00#8, 0x00#8, []⟩ ∧
    (hears responder [0x04#8]).ReceiveDue .eot ⟨0x00#8, 0x00#8, []⟩ ∧
    ((waits (station .slave .idle (chan .init [] []))).TimeoutDue ∧
      (waits (station .slave .idle (chan .init [] []))).curState = .idle) ∧
    ((jumps listener .select).PendingDue .jumpState ∧
      (jumps listener .select).nextState = (jumps listener .select).curState) := by decide

/-! # Witnesses: invariants and operations -/

/-- A sound state whose next step is START, and the state after it. -/
def starting : State := { oneChannel 0 (chan .init [] []) with input := [.record [0x03#8]] }
def started : State := { oneChannel 0 (chan .init [] []) with running := true, pendingEvent := .init }

theorem witness_invariants_of_starting : starting.Inv :=
  ⟨by decide, by decide, by decide, ⟨by decide, by decide, by decide, by decide, by decide, by decide⟩, by decide⟩

/-- A sound running state with a frame in the framer, whose next step is a tick. -/
def sounds : State := { hears listener selectFrame with input := [.record [0x0A#8]] }

theorem witness_invariants_of_a_running_state : sounds.Inv :=
  ⟨by decide, by decide, by decide, ⟨by decide, by decide, by decide, by decide, by decide, by decide⟩, by decide⟩

theorem witness_step_of_starting : step starting = .next started := rfl

/-- `starting` and `started` with another byte where no rule reads. -/
def startingAlike : State := { starting with rxBuf := [(200, 0x55#8)] }
def startedAlike : State := { started with rxBuf := [(200, 0x55#8)] }

theorem witness_UnreadBufferBytesAreNeverSeen : startingAlike.Inv ∧ starting.SameBut startingAlike :=
  ⟨⟨by decide, by decide, by decide, ⟨by decide, by decide, by decide, by decide, by decide, by decide⟩, by decide⟩, by decide⟩

theorem witness_step_of_startingAlike : step startingAlike = .next startedAlike := rfl

theorem witness_SlotsAreStable :
    isInit .start = false ∧ starting.channel 0 = some (chan .init [] []) ∧
    started.channel 0 = some (chan .init [] []) := by decide

theorem witness_exec_of_start : exec .start (oneChannel 0 (chan .init [] [])) = .next started := rfl

theorem witness_RoundRobinFindsTheNextOccupiedSlot :
    0 = (if fresh.curValid = true then fresh.curIndex.val + 1 else 0) ∧
    (let s : State := { full with curIndex := 31, curValid := true };
      32 = if s.curValid = true then s.curIndex.val + 1 else 0) := by decide

theorem witness_TimersExpireAtTheirInterval : (0 < 2 ^ 32) ∧ (2 ^ 32 - 1 < 2 ^ 32) := by decide

theorem witness_BufferHoldsTheFrameWritten :
    Buffer.wf [] = true ∧ Buffer.wf [(0, 0x01#8), (255, 0xFF#8)] = true ∧
    ([] : List Byte).length ≤ 256 ∧ (List.replicate 256 0xAA#8).length ≤ 256 := by
  rw [List.length_replicate]; decide

theorem witness_TransmissionsAreApart : Params.vector.Legal := by decide

/-- A master that enters SELECT with its line at rest, and one that enters POLL with an echo awaited. -/
theorem witness_DirectionDisciplineHoldsWhereItsPremiseDoes :
    isInit .tick = false ∧
    (∀ s ∈ [jumps (station .master .idle (chan .online [packet 0] [])) .select,
        { jumps (station .master .idle (chan .online [] [])) .poll with loopbackPending := true }],
      s.PendingOk ∧ ¬ s.SelectOverAnEcho) := by decide

end Sys2Proof.Tests
end

/-! Proofs of the statements about the state (spec/10_state.md): the reset values, the codes of the enumerations, the
invariants of the reset state, and that no step reads a buffer byte beyond the frame held. -/

/-! # The reset state -/

section
namespace Sys2Proof.Machine

variable (p : Params)

/-- After reset no slot is occupied (R76). -/
@[simp] theorem State.channel_resetWith (i : Fin nCh) : (State.resetWith p).channel i = none := by
  simp [State.channel, State.resetWith]

theorem State.resetWith_buffersOk : (State.resetWith p).BuffersOk := ⟨Buffer.wf_nil, Buffer.wf_nil⟩

theorem State.resetWith_framerOk : (State.resetWith p).FramerOk :=
  ⟨Nat.zero_le _, by simp [State.resetWith, Timer.zero]⟩

theorem State.resetWith_packetsOk : (State.resetWith p).PacketsOk :=
  ⟨fun i => by rw [State.channel_resetWith]; rfl, rfl, rfl, Nat.zero_le _⟩

/-- The control state after reset: the bus is stopped, nothing is pending, INIT is the state, no timer runs. Every
clause holds of these values alone. -/
theorem State.resetWith_controlOk : (State.resetWith p).ControlOk := by
  have stopped : (State.resetWith p).StoppedOk := fun _ => ⟨rfl, rfl, rfl, rfl, rfl⟩
  have pending : (State.resetWith p).PendingOk := ⟨.inl rfl, fun _ => rfl, by simp [State.resetWith]⟩
  have exchange : (State.resetWith p).ExchangeOk := ⟨by simp [State.resetWith], by simp [State.resetWith], by simp [State.resetWith]⟩
  have ready : (State.resetWith p).SelectReady := nofun
  have quiet : (State.resetWith p).IdleQuiet := fun _ => rfl
  have live : (State.resetWith p).NeverStuck := nofun
  exact ⟨stopped, pending, exchange, ready, quiet, live⟩

theorem State.resetWith_lineOk : (State.resetWith p).LineOk := nofun

/-- Settles O51: every part of the invariant holds after reset, whatever the parameters. -/
theorem resetHasTheInvariants : Obligations.ResetHasTheInvariants :=
  ⟨State.resetWith_buffersOk _, State.resetWith_framerOk _, State.resetWith_packetsOk _,
    State.resetWith_controlOk _, State.resetWith_lineOk _⟩

/-- Settles O11: the fields are those of `State.resetWith`, and no slot is occupied. -/
theorem resetValues : Obligations.ResetValues := by
  unfold Obligations.ResetValues
  refine ⟨rfl, rfl, rfl, rfl, rfl, rfl, rfl, rfl, rfl, rfl, rfl, rfl, rfl, rfl, rfl, rfl, rfl, rfl, rfl, rfl, rfl,
    rfl, ?slots⟩
  case slots => exact State.channel_resetWith _

/-- Settles O20: each table of codes, evaluated. -/
theorem enumerationCodes : Obligations.EnumerationCodes :=
  ⟨rfl, rfl, rfl, rfl, rfl, rfl, rfl, rfl⟩

end Sys2Proof.Machine
end

/-! # Buffer bytes beyond the frame held

The proof is a bisimulation. Two states are alike where they differ in the bytes of the two buffers only and hold the
same two frames. A step is made of updates that do not look at the buffers, and of four operations that do: a byte is
stored, a frame is loaded, a frame is sent, a frame is decoded. Each keeps alike states alike, and so does a step. The
cases of a `split` are the arms of the definition, in its order. -/

section
namespace Sys2Proof.Machine

/-! ## The front of a buffer -/

/-- A canonical buffer reads as unwritten beyond its 256 indices. -/
theorem Buffer.read_above {b : Buffer} (h : b.wf = true) {j : Nat} (hj : maxFrame ≤ j) : b.read j = unwrittenByte := by
  simp only [Buffer.wf, Bool.and_eq_true, List.all_eq_true, decide_eq_true_eq] at h
  obtain ⟨-, hall⟩ := h
  induction b with
  | nil => rfl
  | cons cell rest ih =>
    obtain ⟨i, v⟩ := cell
    have hi : i < maxFrame := (hall (i, v) List.mem_cons_self).1
    rw [Buffer.read_cons, if_neg (by omega)]
    exact ih fun x hx => hall x (List.mem_cons_of_mem _ hx)

/-- A read after one write, within the buffer or beyond it. -/
theorem Buffer.read_write_all {b : Buffer} (h : b.wf = true) (a : Nat) (v : Byte) (j : Nat) :
    (b.write a v).read j = if j = a ∧ a < maxFrame then v else b.read j := by
  by_cases ha : a < maxFrame
  · simp [Buffer.read_write h ha, ha]
  · simp [Buffer.write, ha]

/-- The front after a write at its end: the byte joins it, or is lost beyond the last index. -/
theorem Buffer.front_write {b : Buffer} (h : b.wf = true) (n : Nat) (v : Byte) :
    (b.write n v).front (n + 1) = b.front n ++ [if n < maxFrame then v else unwrittenByte] := by
  have hbelow : (b.write n v).front n = b.front n :=
    Buffer.front_congr fun j hj => by rw [Buffer.read_write_all h, if_neg (by omega)]
  have hlast : (b.write n v).read n = if n < maxFrame then v else unwrittenByte := by
    rw [Buffer.read_write_all h]
    by_cases hn : n < maxFrame
    · simp [hn]
    · simp [hn, Buffer.read_above h (Nat.not_lt.mp hn)]
  rw [Buffer.front_succ, hbelow, hlast]

/-- A front is a part of every longer front. -/
theorem Buffer.front_take (b : Buffer) {m n : Nat} (h : m ≤ n) : (b.front n).take m = b.front m := by
  simp [Buffer.front, ← List.map_take, List.take_range, h]

/-- Buffers with the same front have the same shorter fronts. -/
theorem Buffer.front_eq_of_le {b b' : Buffer} {m n : Nat} (h : b.front n = b'.front n) (hmn : m ≤ n) :
    b.front m = b'.front m := by
  rw [← b.front_take hmn, h, b'.front_take hmn]

/-- Buffers with the same front keep it over the same sequence of writes, which lengthens it. -/
theorem Buffer.front_writeFrom_congr {b b' : Buffer} (hb : b.wf = true) (hb' : b'.wf = true) {n : Nat}
    (h : b.front n = b'.front n) (vs : List Byte) :
    (b.writeFrom n vs).front (n + vs.length) = (b'.writeFrom n vs).front (n + vs.length) := by
  induction vs generalizing b b' n with
  | nil => exact h
  | cons v vs ih =>
    have hone : (b.write n v).front (n + 1) = (b'.write n v).front (n + 1) := by
      rw [Buffer.front_write hb, Buffer.front_write hb', h]
    have hrest := ih (Buffer.wf_write hb n v) (Buffer.wf_write hb' n v) hone
    rwa [List.length_cons, ← Nat.add_assoc, Nat.add_right_comm]

/-! ## Alike states -/

/-- `s` with other buffers. -/
def State.withBuffers (s : State) (rx tx : Buffer) : State := { s with rxBuf := rx, txBuf := tx }

section
variable (s : State) (rx tx : Buffer)

@[simp] theorem State.withBuffers_role : (s.withBuffers rx tx).role = s.role := rfl
@[simp] theorem State.withBuffers_stationAddress : (s.withBuffers rx tx).stationAddress = s.stationAddress := rfl
@[simp] theorem State.withBuffers_running : (s.withBuffers rx tx).running = s.running := rfl
@[simp] theorem State.withBuffers_tickCount : (s.withBuffers rx tx).tickCount = s.tickCount := rfl
@[simp] theorem State.withBuffers_rxKind : (s.withBuffers rx tx).rxKind = s.rxKind := rfl
@[simp] theorem State.withBuffers_rxPacket : (s.withBuffers rx tx).rxPacket = s.rxPacket := rfl
@[simp] theorem State.withBuffers_txLen : (s.withBuffers rx tx).txLen = s.txLen := rfl
@[simp] theorem State.withBuffers_curState : (s.withBuffers rx tx).curState = s.curState := rfl
@[simp] theorem State.withBuffers_pollSub : (s.withBuffers rx tx).pollSub = s.pollSub := rfl
@[simp] theorem State.withBuffers_selectSub : (s.withBuffers rx tx).selectSub = s.selectSub := rfl
@[simp] theorem State.withBuffers_params : (s.withBuffers rx tx).params = s.params := rfl
@[simp] theorem State.withBuffers_input : (s.withBuffers rx tx).input = s.input := rfl
@[simp] theorem State.withBuffers_channel (i : Fin nCh) : (s.withBuffers rx tx).channel i = s.channel i := rfl
@[simp] theorem State.withBuffers_channelOf (id : Byte) : (s.withBuffers rx tx).channelOf id = s.channelOf id := rfl
@[simp] theorem State.withBuffers_freeSlot : (s.withBuffers rx tx).freeSlot = s.freeSlot := rfl
@[simp] theorem State.withBuffers_advanceRoundRobin :
    (s.withBuffers rx tx).advanceRoundRobin = s.advanceRoundRobin := rfl
@[simp] theorem State.withBuffers_mustAnswer : (s.withBuffers rx tx).mustAnswer = s.mustAnswer := rfl

end

/-- The second state is the first with other buffers, canonical too, which hold the same two frames. -/
inductive State.Alike (s : State) : State → Prop where
  | mk (rx tx : Buffer) (left : s.BuffersOk) (right : rx.wf = true ∧ tx.wf = true)
      (rxFront : s.rxBuf.front s.rxCount.toNat = rx.front s.rxCount.toNat)
      (txFront : s.txBuf.front s.txLen.toNat = tx.front s.txLen.toNat) : s.Alike (s.withBuffers rx tx)

/-- Alike states are those that `State.SameBut` relates, where their buffers are canonical. -/
theorem State.alike_iff {s u : State} : s.Alike u ↔ s.SameBut u ∧ s.BuffersOk ∧ u.BuffersOk := by
  constructor
  · rintro ⟨rx, tx, left, right, rxFront, txFront⟩
    exact ⟨⟨rfl, rxFront, txFront⟩, left, right⟩
  · rintro ⟨⟨hf, hr, ht⟩, left, right⟩
    have hu : u = s.withBuffers u.rxBuf u.txBuf :=
      (congrArg (fun w : State => w.withBuffers u.rxBuf u.txBuf) hf :).symm
    have hrx : u.rxCount = s.rxCount := by rw [hu]; rfl
    have htx : u.txLen = s.txLen := by rw [hu]; rfl
    have rxFront : s.rxBuf.front s.rxCount.toNat = u.rxBuf.front s.rxCount.toNat :=
      hr.trans (by rw [State.rxFrame, hrx])
    have txFront : s.txBuf.front s.txLen.toNat = u.txBuf.front s.txLen.toNat :=
      ht.trans (by rw [State.txFrame, htx])
    rw [hu]
    exact ⟨_, _, left, right, rxFront, txFront⟩

section
variable {s u : State}

theorem State.Alike.refl (h : s.BuffersOk) : s.Alike s := ⟨s.rxBuf, s.txBuf, h, h, rfl, rfl⟩

theorem State.Alike.exists_withBuffers (h : s.Alike u) : ∃ rx tx, u = s.withBuffers rx tx := by
  obtain ⟨rx, tx⟩ := h
  exact ⟨rx, tx, rfl⟩

/-- Where the buffers stay and no frame gets longer, and the other fields change in the same way on both sides, the
states stay alike. -/
theorem State.Alike.blind {s' u' : State} (h : s.Alike u)
    (hu : u' = s'.withBuffers u.rxBuf u.txBuf := by rfl)
    (hrx : s'.rxBuf = s.rxBuf := by rfl) (htx : s'.txBuf = s.txBuf := by rfl)
    (hrxCount : s'.rxCount.toNat ≤ s.rxCount.toNat := by exact Nat.le_refl _)
    (htxLen : s'.txLen.toNat ≤ s.txLen.toNat := by exact Nat.le_refl _) : s'.Alike u' := by
  obtain ⟨rx, tx, left, right, rxFront, txFront⟩ := h
  rw [hu]
  refine ⟨rx, tx, ?_, right, ?_, ?_⟩
  · rw [State.BuffersOk, hrx, htx]; exact left
  · rw [hrx]; exact Buffer.front_eq_of_le rxFront hrxCount
  · rw [htx]; exact Buffer.front_eq_of_le txFront htxLen

/-! ## The operations -/

theorem State.Alike.post (h : s.Alike u) (e : Event) (target : TopState) :
    (s.post e target).Alike (u.post e target) := by
  obtain ⟨rx, tx, rfl⟩ := h.exists_withBuffers
  exact h.blind

theorem State.Alike.armStateTimer (h : s.Alike u) (interval : Word) :
    (s.armStateTimer interval).Alike (u.armStateTimer interval) := by
  obtain ⟨rx, tx, rfl⟩ := h.exists_withBuffers
  exact h.blind

theorem State.Alike.pollSub (h : s.Alike u) (sub : PollSub) :
    ({ s with pollSub := sub } : State).Alike { u with pollSub := sub } := by
  obtain ⟨rx, tx, rfl⟩ := h.exists_withBuffers
  exact h.blind

theorem State.Alike.selectSub (h : s.Alike u) (sub : SelectSub) :
    ({ s with selectSub := sub } : State).Alike { u with selectSub := sub } := by
  obtain ⟨rx, tx, rfl⟩ := h.exists_withBuffers
  exact h.blind

theorem State.Alike.withReply (h : s.Alike u) (r : List Byte) : (s.withReply r).Alike (u.withReply r) := by
  obtain ⟨rx, tx, rfl⟩ := h.exists_withBuffers
  exact h.blind

theorem State.Alike.setChannel (h : s.Alike u) (i : Fin nCh) (c : Channel) :
    (s.setChannel i c).Alike (u.setChannel i c) := by
  obtain ⟨rx, tx, rfl⟩ := h.exists_withBuffers
  exact h.blind

/-- A rule on the channel of a slot. -/
theorem State.Alike.onChannel (h : s.Alike u) (i : Fin nCh) {f g : Channel → State}
    (hfg : ∀ c, (f c).Alike (g c)) : (s.onChannel i f).Alike (u.onChannel i g) := by
  obtain ⟨rx, tx, rfl⟩ := h.exists_withBuffers
  unfold State.onChannel
  rw [State.withBuffers_channel]
  cases s.channel i with
  | none => exact h
  | some c => exact hfg c

/-- The frame sent is the frame held. -/
theorem State.Alike.sendFrame (h : s.Alike u) : s.sendFrame.Alike u.sendFrame := by
  obtain ⟨rx, tx, left, right, rxFront, txFront⟩ := h
  have hframe : (s.withBuffers rx tx).txFrame = s.txFrame := txFront.symm
  have hu : (s.withBuffers rx tx).sendFrame = s.sendFrame.withBuffers rx tx := by
    unfold State.sendFrame
    rw [hframe]
    rfl
  rw [hu]
  exact ⟨rx, tx, left, right, rxFront, txFront⟩

/-- Every byte of the frame loaded is written. -/
theorem State.Alike.loadTx (h : s.Alike u) (f : Frame) : (s.loadTx f).Alike (u.loadTx f) := by
  obtain ⟨rx, tx, left, right, rxFront, txFront⟩ := h
  have hlen : (s.loadTx f).txLen.toNat ≤ 0 + (encodeFrame s.params f).length := by
    simp [Nat.mod_le]
  exact ⟨rx, tx.writeFrom 0 (encodeFrame s.params f), ⟨left.1, Buffer.wf_writeFrom left.2 _ _⟩,
    ⟨right.1, Buffer.wf_writeFrom right.2 _ _⟩, rxFront,
    Buffer.front_eq_of_le (Buffer.front_writeFrom_congr left.2 right.2 rfl _) hlen⟩

theorem State.Alike.prepareReply (h : s.Alike u) (f : Frame) : (s.prepareReply f).Alike (u.prepareReply f) := by
  obtain ⟨rx, tx, rfl⟩ := h.exists_withBuffers
  exact (h.loadTx f).armStateTimer _

/-- The byte stored joins the frame, at the index that `rx_count` gives. -/
theorem State.Alike.receiveByte (h : s.Alike u) (b : Byte) : (s.receiveByte b).Alike (u.receiveByte b) := by
  obtain ⟨rx, tx, left, right, rxFront, txFront⟩ := h
  by_cases hroom : s.rxCount.toNat < maxFrame
  · rw [State.receiveByte_room hroom, State.receiveByte_room (s := s.withBuffers rx tx) hroom]
    refine ⟨rx.write s.rxCount.toNat b, tx, ⟨Buffer.wf_write left.1 _ _, left.2⟩,
      ⟨Buffer.wf_write right.1 _ _, right.2⟩, ?_, txFront⟩
    show Buffer.front _ (s.rxCount + 1#9).toNat = Buffer.front _ (s.rxCount + 1#9).toNat
    rw [succ9_toNat hroom, Buffer.front_write left.1, Buffer.front_write right.1, rxFront]
  · have hfull := Nat.not_lt.mp hroom
    rw [State.receiveByte_full hfull, State.receiveByte_full (s := s.withBuffers rx tx) hfull]
    exact ⟨rx, tx, left, right, rxFront, txFront⟩

theorem State.Alike.receiveBytes (h : s.Alike u) (bytes : List Byte) :
    (s.receiveBytes bytes).Alike (u.receiveBytes bytes) := by
  induction bytes generalizing s u with
  | nil => exact h
  | cons b bs ih => exact ih (h.receiveByte b)

/-! ## The master -/

theorem State.Alike.visit (h : s.Alike u) (i : Fin nCh) (c : Channel) : (s.visit i c).Alike (u.visit i c) := by
  obtain ⟨rx, tx, rfl⟩ := h.exists_withBuffers
  unfold State.visit State.visitOnlinePoll State.visitOffline
  rw [State.withBuffers_tickCount]
  (repeat' split) <;> exact h.blind

theorem State.Alike.schedule (h : s.Alike u) : s.schedule.Alike u.schedule := by
  obtain ⟨rx, tx, rfl⟩ := h.exists_withBuffers
  unfold State.schedule
  rw [State.withBuffers_advanceRoundRobin]
  cases s.advanceRoundRobin with
  | none => exact h.blind
  | some r =>
    have hcur : ({ s with curIndex := r, curValid := true } : State).Alike
        { s.withBuffers rx tx with curIndex := r, curValid := true } := h.blind
    exact hcur.onChannel r (hcur.visit r)

theorem masterIdle_alike (h : s.Alike u) (ev : Event) : (masterIdle s ev).Alike (masterIdle u ev) := by
  cases ev with
  | jumpState => exact h.schedule
  | _ => exact h

theorem masterPollEntry_alike (h : s.Alike u) : (masterPollEntry s).Alike (masterPollEntry u) := by
  obtain ⟨rx, tx, rfl⟩ := h.exists_withBuffers
  exact h.onChannel _ fun c => ((h.pollSub .sendDelay).loadTx (.poll c.address)).armStateTimer _

theorem masterPollUnanswered_alike (h : s.Alike u) : (masterPollUnanswered s).Alike (masterPollUnanswered u) := by
  obtain ⟨rx, tx, rfl⟩ := h.exists_withBuffers
  exact h.onChannel _ fun c => h.blind

theorem masterPollEot_alike (h : s.Alike u) : (masterPollEot s).Alike (masterPollEot u) := by
  obtain ⟨rx, tx, rfl⟩ := h.exists_withBuffers
  exact h.onChannel _ fun c => h.blind

theorem masterPollRespond_alike (h : s.Alike u) : (masterPollRespond s).Alike (masterPollRespond u) := by
  obtain ⟨rx, tx, rfl⟩ := h.exists_withBuffers
  refine h.onChannel _ fun c => ?_
  rw [State.withBuffers_rxPacket]
  split
  · cases c.inq.put s.rxPacket with
    | none => exact (h.blind.prepareReply .ack).blind
    | some q => exact (h.blind.prepareReply .ack).pollSub _
  · exact h

theorem masterPollFrame_alike (h : s.Alike u) : (masterPollFrame s).Alike (masterPollFrame u) := by
  obtain ⟨rx, tx, rfl⟩ := h.exists_withBuffers
  unfold masterPollFrame
  rw [State.withBuffers_rxKind]
  split
  case h_1 => exact masterPollEot_alike h
  case h_2 => exact masterPollRespond_alike h
  case h_3 => exact (h.prepareReply .nack).pollSub _
  case h_4 => exact h

theorem masterPoll_alike (h : s.Alike u) (ev : Event) : (masterPoll s ev).Alike (masterPoll u ev) := by
  obtain ⟨rx, tx, rfl⟩ := h.exists_withBuffers
  unfold masterPoll
  rw [State.withBuffers_pollSub]
  split
  case h_1 => exact (h.sendFrame.armStateTimer _).pollSub _
  case h_2 => exact h.blind
  case h_3 => exact masterPollUnanswered_alike h
  case h_4 => exact masterPollFrame_alike h
  case h_5 => exact masterPollUnanswered_alike h
  case h_6 => exact (h.sendFrame.armStateTimer _).pollSub _
  case h_7 => exact h

theorem masterSelectEntry_alike (h : s.Alike u) : (masterSelectEntry s).Alike (masterSelectEntry u) := by
  obtain ⟨rx, tx, rfl⟩ := h.exists_withBuffers
  refine h.onChannel _ fun c => ?_
  cases c.outq.get with
  | none => exact h.post .jumpState .idle
  | some taken =>
    exact ((h.blind.loadTx (.select taken.1)).sendFrame.armStateTimer _).selectSub _

theorem masterSelectNack_alike (h : s.Alike u) : (masterSelectNack s).Alike (masterSelectNack u) := by
  obtain ⟨rx, tx, rfl⟩ := h.exists_withBuffers
  refine h.onChannel _ fun c => ?_
  split
  · exact (h.blind.sendFrame.armStateTimer _).selectSub _
  · exact h.blind

theorem masterSelectFrame_alike (h : s.Alike u) : (masterSelectFrame s).Alike (masterSelectFrame u) := by
  obtain ⟨rx, tx, rfl⟩ := h.exists_withBuffers
  unfold masterSelectFrame
  rw [State.withBuffers_rxKind]
  split
  case h_1 => exact h.post .jumpState .idle
  case h_2 => exact masterSelectNack_alike h
  case h_3 => exact h

theorem masterSelect_alike (h : s.Alike u) (ev : Event) : (masterSelect s ev).Alike (masterSelect u ev) := by
  obtain ⟨rx, tx, rfl⟩ := h.exists_withBuffers
  unfold masterSelect
  rw [State.withBuffers_selectSub]
  split
  case h_1 => exact h.blind
  case h_2 => exact h.blind
  case h_3 => exact masterSelectFrame_alike h
  case h_4 => exact h.blind
  case h_5 => exact h

/-! ## The slave -/

theorem slaveIdle_alike (h : s.Alike u) (ev : Event) : (slaveIdle s ev).Alike (slaveIdle u ev) := by
  obtain ⟨rx, tx, rfl⟩ := h.exists_withBuffers
  cases ev with
  | jumpState =>
    show (slaveIdleJump s).Alike (slaveIdleJump _)
    unfold slaveIdleJump
    rw [State.withBuffers_channel]
    cases s.channel 0 with
    | none => exact h.post .jumpState .idle
    | some c => exact h.blind
  | _ => exact h

theorem State.Alike.mirror (h : s.Alike u) : s.mirror.Alike u.mirror := by
  refine h.onChannel 0 fun c => ?_
  obtain ⟨rx, tx, rfl⟩ := h.exists_withBuffers
  split <;> exact h.blind

theorem slaveSelectPoll_alike (h : s.Alike u) : (slaveSelectPoll s).Alike (slaveSelectPoll u) := by
  obtain ⟨rx, tx, rfl⟩ := h.exists_withBuffers
  unfold slaveSelectPoll
  rw [State.withBuffers_mustAnswer]
  split
  · exact h.onChannel 0 fun c => h.blind
  · exact h

theorem slaveSelectAnswer_alike (h : s.Alike u) : (slaveSelectAnswer s).Alike (slaveSelectAnswer u) := by
  obtain ⟨rx, tx, rfl⟩ := h.exists_withBuffers
  unfold slaveSelectAnswer
  rw [State.withBuffers_stationAddress, State.withBuffers_rxPacket]
  split
  · exact (h.prepareReply .ack).selectSub _
  · exact h

theorem slaveSelectData_alike (h : s.Alike u) : (slaveSelectData s).Alike (slaveSelectData u) := by
  obtain ⟨rx, tx, rfl⟩ := h.exists_withBuffers
  unfold slaveSelectData
  rw [State.withBuffers_stationAddress, State.withBuffers_rxPacket]
  split
  · refine h.onChannel 0 fun c => ?_
    cases c.inq.put s.rxPacket with
    | none => exact slaveSelectAnswer_alike h.blind
    | some q => exact slaveSelectAnswer_alike h.blind
  · exact h

theorem slaveSelectError_alike (h : s.Alike u) : (slaveSelectError s).Alike (slaveSelectError u) := by
  obtain ⟨rx, tx, rfl⟩ := h.exists_withBuffers
  unfold slaveSelectError
  rw [State.withBuffers_mustAnswer]
  split
  · exact (h.prepareReply .nack).selectSub _
  · exact h

theorem slaveSelectFrame_alike (h : s.Alike u) : (slaveSelectFrame s).Alike (slaveSelectFrame u) := by
  obtain ⟨rx, tx, rfl⟩ := h.exists_withBuffers
  unfold slaveSelectFrame
  rw [State.withBuffers_rxKind]
  split
  case h_1 => exact slaveSelectPoll_alike h
  case h_2 => exact slaveSelectData_alike h
  case h_3 => exact slaveSelectError_alike h
  case h_4 => exact h

theorem slaveSelect_alike (h : s.Alike u) (ev : Event) : (slaveSelect s ev).Alike (slaveSelect u ev) := by
  obtain ⟨rx, tx, rfl⟩ := h.exists_withBuffers
  unfold slaveSelect
  rw [State.withBuffers_selectSub]
  split
  case h_1 => exact slaveSelectFrame_alike h
  case h_2 => exact h.onChannel 0 fun c => h.blind
  case h_3 => exact (h.sendFrame.selectSub _).mirror
  case h_4 => exact h

theorem slavePollEntry_alike (h : s.Alike u) : (slavePollEntry s).Alike (slavePollEntry u) := by
  obtain ⟨rx, tx, rfl⟩ := h.exists_withBuffers
  have noData : (slavePollNoData s).Alike (slavePollNoData (s.withBuffers rx tx)) :=
    ((h.loadTx .eot).armStateTimer _).pollSub _
  refine h.onChannel 0 fun c => ?_
  split
  · cases c.outq.get with
    | none => exact noData
    | some taken => exact ((h.blind.loadTx (.respond taken.1)).armStateTimer _).pollSub _
  · exact noData

theorem slavePollEcho_alike (h : s.Alike u) : (slavePollEcho s).Alike (slavePollEcho u) := by
  obtain ⟨rx, tx, rfl⟩ := h.exists_withBuffers
  unfold slavePollEcho
  rw [State.withBuffers_txLen]
  (repeat' split)
  · exact h.post .jumpState .select
  · exact h.blind
  · exact h

theorem slavePollAck_alike (h : s.Alike u) : (slavePollAck s).Alike (slavePollAck u) := by
  obtain ⟨rx, tx, rfl⟩ := h.exists_withBuffers
  exact h.onChannel 0 fun c => (h.blind.prepareReply .eot).pollSub _

theorem slavePollNack_alike (h : s.Alike u) : (slavePollNack s).Alike (slavePollNack u) := by
  obtain ⟨rx, tx, rfl⟩ := h.exists_withBuffers
  refine h.onChannel 0 fun c => ?_
  split
  · exact h.blind
  · exact (h.blind.prepareReply .eot).blind

theorem slavePollFrame_alike (h : s.Alike u) : (slavePollFrame s).Alike (slavePollFrame u) := by
  obtain ⟨rx, tx, rfl⟩ := h.exists_withBuffers
  have habort := h.post .jumpState .select
  unfold slavePollFrame
  rw [State.withBuffers_rxKind]
  split
  case h_1 => exact slavePollAck_alike h
  case h_2 => exact slavePollNack_alike h
  case h_3 => exact habort
  case h_4 => exact habort
  case h_5 => exact habort
  case h_6 => exact h

theorem slavePoll_alike (h : s.Alike u) (ev : Event) : (slavePoll s ev).Alike (slavePoll u ev) := by
  obtain ⟨rx, tx, rfl⟩ := h.exists_withBuffers
  have hsend : (slavePollSend s).Alike (slavePollSend (s.withBuffers rx tx)) :=
    (h.sendFrame.armStateTimer _).pollSub _
  unfold slavePoll
  rw [State.withBuffers_pollSub]
  split
  case h_1 => exact hsend
  case h_2 => exact slavePollEcho_alike h
  case h_3 => exact h.post .jumpState .select
  case h_4 => exact slavePollFrame_alike h
  case h_5 => exact h.onChannel 0 fun c => h.blind
  case h_6 => exact hsend
  case h_7 => exact h

/-! ## The tick -/

theorem initHandler_alike (h : s.Alike u) (ev : Event) : (initHandler s ev).Alike (initHandler u ev) := by
  obtain ⟨rx, tx, rfl⟩ := h.exists_withBuffers
  cases ev with
  | init => exact h.blind (hrxCount := Nat.zero_le _)
  | _ => exact h

theorem State.Alike.handle (h : s.Alike u) (ev : Event) : (s.handle ev).Alike (u.handle ev) := by
  obtain ⟨rx, tx, rfl⟩ := h.exists_withBuffers
  unfold State.handle
  rw [State.withBuffers_curState, State.withBuffers_role]
  split
  case h_1 => exact initHandler_alike h ev
  case h_2 => exact masterIdle_alike h ev
  case h_3 => exact slaveIdle_alike h ev
  case h_4 => exact masterPoll_alike h ev
  case h_5 => exact slavePoll_alike h ev
  case h_6 => exact masterSelect_alike h ev
  case h_7 => exact slaveSelect_alike h ev

theorem State.Alike.entryHook (h : s.Alike u) (target : TopState) :
    (s.entryHook target).Alike (u.entryHook target) := by
  obtain ⟨rx, tx, rfl⟩ := h.exists_withBuffers
  unfold State.entryHook
  rw [State.withBuffers_role]
  split
  case h_1 => exact h
  case h_2 => exact h
  case h_3 => exact masterPollEntry_alike h
  case h_4 => exact slavePollEntry_alike h
  case h_5 => exact masterSelectEntry_alike h
  case h_6 => exact (h.selectSub .sendWaitOrReceiveWait).mirror

theorem State.Alike.dispatch (h : s.Alike u) (ev : Event) : (s.dispatch ev).Alike (u.dispatch ev) := by
  obtain ⟨rx, tx, rfl⟩ := h.exists_withBuffers
  by_cases hn : ev = .none
  · subst hn
    exact h
  · by_cases hs : s.resolve ev = s.curState
    · rw [State.dispatch_stay hn hs, State.dispatch_stay (s := s.withBuffers rx tx) hn hs]
      exact h.handle ev
    · rw [State.dispatch_change hn hs, State.dispatch_change (s := s.withBuffers rx tx) hn hs]
      exact (h.blind.entryHook (s.resolve ev)).handle ev

/-! ## The instructions -/

/-- The outcomes are next states that are alike. -/
inductive AlikeOutcomes : (x y : Host.Outcome State Fault Refusal) → Prop where
  | next {t v : State} (h : t.Alike v) : AlikeOutcomes (.next t) (.next v)

/-- What falls due at a tick is the same for both, a completed frame decodes alike, and the event is dispatched from
alike states. -/
theorem execTick_alike (h : s.Alike u) : AlikeOutcomes (exec .tick s) (exec .tick u) := by
  obtain ⟨rx, tx, left, right, rxFront, txFront⟩ := h
  have h : s.Alike (s.withBuffers rx tx) := ⟨rx, tx, left, right, rxFront, txFront⟩
  have hframe : (s.withBuffers rx tx).rxFrame = s.rxFrame := rxFront.symm
  rcases tick_finds s with hstopped | hnothing | hgarbage | hecho | ⟨k, p, hreceive⟩ | ⟨e, hpending⟩ | htimeout
  · rw [exec_tick_stopped hstopped, exec_tick_stopped (s := s.withBuffers rx tx) hstopped]
    exact .next h.blind
  · rw [exec_tick_nothing hnothing, exec_tick_nothing (s := s.withBuffers rx tx) hnothing]
    exact .next h.blind
  · have hgarbage' : (s.withBuffers rx tx).GarbageDue := by
      obtain ⟨hdue, hl, hk⟩ := hgarbage
      exact ⟨hdue, hl, by rw [hframe]; exact hk⟩
    rw [exec_tick_garbage hgarbage, exec_tick_garbage hgarbage']
    exact .next (h.blind (hrxCount := Nat.zero_le _))
  · rw [exec_tick_echo hecho, exec_tick_echo (s := s.withBuffers rx tx) hecho]
    exact .next ((h.blind (hrxCount := Nat.zero_le _)).dispatch .loopback)
  · have hreceive' : (s.withBuffers rx tx).ReceiveDue k p := by
      obtain ⟨hdue, hl, hk, hn⟩ := hreceive
      exact ⟨hdue, hl, by rw [hframe]; exact hk, hn⟩
    rw [exec_tick_frame hreceive, exec_tick_frame hreceive']
    exact .next ((h.blind (hrxCount := Nat.zero_le _)).dispatch .frame)
  · rw [exec_tick_pending hpending, exec_tick_pending (s := s.withBuffers rx tx) hpending]
    exact .next (h.blind.dispatch e)
  · rw [exec_tick_timeout htimeout, exec_tick_timeout (s := s.withBuffers rx tx) htimeout]
    exact .next (h.blind.dispatch .timeout)

/-- INIT leaves no byte in either buffer. -/
theorem execInit_alike (h : s.Alike u) (r : Role) (a : Byte) :
    AlikeOutcomes (exec (.init r a) s) (exec (.init r a) u) := by
  obtain ⟨rx, tx, rfl⟩ := h.exists_withBuffers
  exact .next (.refl ⟨Buffer.wf_nil, Buffer.wf_nil⟩)

theorem execCreateChannel_alike (h : s.Alike u) (a : Byte) (pa sa : Bool) (oc ic : Byte) :
    AlikeOutcomes (exec (.createChannel a pa sa oc ic) s) (exec (.createChannel a pa sa oc ic) u) := by
  obtain ⟨rx, tx, rfl⟩ := h.exists_withBuffers
  show AlikeOutcomes (execCreateChannel a pa sa oc ic s) (execCreateChannel a pa sa oc ic _)
  unfold execCreateChannel State.create
  rw [State.withBuffers_params, State.withBuffers_freeSlot]
  cases legalCapacity s.params oc && legalCapacity s.params ic with
  | false => exact .next (h.withReply _)
  | true =>
    cases s.freeSlot with
    | none => exact .next (h.withReply _)
    | some i => exact .next ((h.setChannel i _).withReply _)

theorem execStart_alike (h : s.Alike u) : AlikeOutcomes (exec .start s) (exec .start u) := by
  obtain ⟨rx, tx, rfl⟩ := h.exists_withBuffers
  show AlikeOutcomes (execStart s) (execStart _)
  unfold execStart
  rw [State.withBuffers_running]
  split
  · exact .next (h.withReply _)
  · exact .next h.blind

theorem State.Alike.sendOn (h : s.Alike u) (i : Fin nCh) (c : Channel) (o : Byte) (payload : List Byte) :
    (s.sendOn i c o payload).Alike (u.sendOn i c o payload) := by
  unfold State.sendOn
  split
  · exact h.withReply _
  · cases c.outq.put (sentPacket c o payload) with
    | none => exact h.withReply _
    | some q => exact (h.setChannel i _).withReply _

theorem execSend_alike (h : s.Alike u) (id o : Byte) (payload : List Byte) :
    AlikeOutcomes (exec (.send id o payload) s) (exec (.send id o payload) u) := by
  obtain ⟨rx, tx, rfl⟩ := h.exists_withBuffers
  show AlikeOutcomes (execSend id o payload s) (execSend id o payload _)
  unfold execSend
  rw [State.withBuffers_channelOf]
  split
  · exact .next (h.withReply _)
  · cases s.channelOf id with
    | none => exact .next (h.withReply _)
    | some slot => exact .next (h.sendOn slot.1 slot.2 o payload)

theorem execReceive_alike (h : s.Alike u) (id : Byte) :
    AlikeOutcomes (exec (.receive id) s) (exec (.receive id) u) := by
  obtain ⟨rx, tx, rfl⟩ := h.exists_withBuffers
  show AlikeOutcomes (execReceive id s) (execReceive id _)
  unfold execReceive
  rw [State.withBuffers_channelOf]
  cases s.channelOf id with
  | none => exact .next (h.withReply _)
  | some slot =>
    obtain ⟨i, c⟩ := slot
    dsimp only
    cases c.inq.get with
    | none => exact .next (h.withReply _)
    | some taken => exact .next ((h.setChannel i _).withReply _)

theorem execIsDataAvailable_alike (h : s.Alike u) (id : Byte) :
    AlikeOutcomes (exec (.isDataAvailable id) s) (exec (.isDataAvailable id) u) := by
  obtain ⟨rx, tx, rfl⟩ := h.exists_withBuffers
  show AlikeOutcomes (execIsDataAvailable id s) (execIsDataAvailable id _)
  unfold execIsDataAvailable
  rw [State.withBuffers_channelOf]
  cases s.channelOf id with
  | none => exact .next (h.withReply _)
  | some slot => exact .next (h.withReply _)

theorem execChannelState_alike (h : s.Alike u) (id : Byte) :
    AlikeOutcomes (exec (.channelState id) s) (exec (.channelState id) u) := by
  obtain ⟨rx, tx, rfl⟩ := h.exists_withBuffers
  show AlikeOutcomes (execChannelState id s) (execChannelState id _)
  unfold execChannelState
  rw [State.withBuffers_channelOf]
  cases s.channelOf id with
  | none => exact .next (h.withReply _)
  | some slot => exact .next (h.withReply _)

/-- The bytes of a wire frame reach both through the byte input. -/
theorem State.Alike.deliver (h : s.Alike u) (f : Frame) : (s.deliver f).Alike (u.deliver f) := by
  obtain ⟨rx, tx, rfl⟩ := h.exists_withBuffers
  exact (h.withReply []).receiveBytes (encodeFrame s.params f)

/-- Every instruction takes alike states to alike states. -/
theorem exec_alike (h : s.Alike u) (i : Instr) : AlikeOutcomes (exec i s) (exec i u) := by
  obtain ⟨rx, tx, rfl⟩ := h.exists_withBuffers
  cases i with
  | init r a => exact execInit_alike h r a
  | createChannel a pa sa oc ic => exact execCreateChannel_alike h a pa sa oc ic
  | start => exact execStart_alike h
  | send id o payload => exact execSend_alike h id o payload
  | receive id => exact execReceive_alike h id
  | isDataAvailable id => exact execIsDataAvailable_alike h id
  | channelState id => exact execChannelState_alike h id
  | readStatus selector => exact .next (h.withReply _)
  | readChannel id selector => exact .next (h.withReply _)
  | tick => exact execTick_alike h
  | rxByte b => exact .next ((h.withReply []).receiveByte b)
  | ack => exact .next (h.deliver .ack)
  | nack => exact .next (h.deliver .nack)
  | eot => exact .next (h.deliver .eot)
  | poll a => exact .next (h.deliver (.poll a))
  | select a o payload => exact .next (h.deliver (.select ⟨a, o, payload⟩))
  | respond a o payload => exact .next (h.deliver (.respond ⟨a, o, payload⟩))

theorem State.Alike.takeUndecoded (h : s.Alike u) (x : Strobe) : (s.takeUndecoded x).Alike (u.takeUndecoded x) := by
  cases x with
  | record bytes => exact h.withReply illegalReply
  | frame bytes => exact (h.withReply []).receiveBytes bytes

/-- Both states read the same input alike. -/
theorem State.Alike.take (h : s.Alike u) (x : Strobe) : AlikeOutcomes (s.take x) (u.take x) := by
  obtain ⟨rx, tx, rfl⟩ := h.exists_withBuffers
  unfold State.take
  rw [State.withBuffers_params]
  cases decodeStrobe s.params x with
  | ok i => exact exec_alike h i
  | error e => exact .next (h.takeUndecoded x)

/-- A step takes alike states to alike states: both take the same input. -/
theorem step_alike (h : s.Alike u) : AlikeOutcomes (step s) (step u) := by
  obtain ⟨rx, tx, rfl⟩ := h.exists_withBuffers
  unfold step State.takeNext
  rw [State.withBuffers_input]
  cases s.input with
  | nil => exact .next h
  | cons x rest =>
    have hrest : ({ s with input := rest } : State).Alike { s.withBuffers rx tx with input := rest } := h.blind
    exact hrest.take x

end

/-- Settles O54: sound states that differ in unread buffer bytes only are alike, and a step keeps alike states alike. -/
theorem unreadBufferBytesAreNeverSeen : Obligations.UnreadBufferBytesAreNeverSeen := by
  intro s u t v ⟨hs, _⟩ ⟨hu, _⟩ hsame ht hv
  have h := step_alike (State.alike_iff.mpr ⟨hsame, hs, hu⟩)
  rw [ht, hv] at h
  obtain ⟨h⟩ := h
  exact (State.alike_iff.mp h).1

end Sys2Proof.Machine
end

/-! Proofs of the statements about the memories (spec/20_memory.md): the byte buffers, the packet queues, the order of
the inputs, and the bounds every step keeps. -/

/-! # Buffers and the order of the inputs -/

section
namespace Sys2Proof.Machine

/-- Settles O8: of the three things a step can be, the input and its decoding leave one. -/
theorem stepRunsTheDecodedInstruction : Obligations.StepRunsTheDecodedInstruction := by
  intro s x rest i hinput hdecode
  rcases step_cases s with ⟨hnil, -⟩ | ⟨x', rest', i', hin, hdec, hstep⟩ | ⟨x', rest', e, hin, hdec, -⟩
  · rw [hinput] at hnil
    exact nomatch hnil
  · rw [hinput] at hin
    cases hin
    rw [hdecode] at hdec
    cases hdec
    exact hstep
  · rw [hinput] at hin
    cases hin
    rw [hdecode] at hdec
    exact nomatch hdec

/-- Settles O58, by what a sequence of writes does to the canonical form, to the front and to every read. -/
theorem bufferHoldsTheFrameWritten : Obligations.BufferHoldsTheFrameWritten := by
  intro b bytes hwf hlen
  have hroom : 0 + bytes.length ≤ maxFrame := by simpa [maxFrame] using hlen
  refine ⟨Buffer.wf_writeFrom hwf 0 bytes, Buffer.front_writeFrom hwf bytes hlen, fun a ha => ?_⟩
  rw [Buffer.read_writeFrom hwf bytes hroom, if_neg (by omega)]

end Sys2Proof.Machine
end

/-! # What the instructions can do

For the instructions that write a slot, and for the tick, the outcomes there are. The proofs about the queues and about
the bounds both go through these. -/

section
namespace Sys2Proof.Machine

variable (s : State)

@[simp] theorem State.channel_receiveByte (b : Byte) (i : Fin nCh) : (s.receiveByte b).channel i = s.channel i := by
  unfold State.receiveByte State.storeByte
  split <;> rfl

@[simp] theorem State.channel_receiveBytes (bytes : List Byte) (i : Fin nCh) :
    (s.receiveBytes bytes).channel i = s.channel i := by
  induction bytes generalizing s with
  | nil => rfl
  | cons b bs ih => exact (ih (s.receiveByte b)).trans (s.channel_receiveByte b i)

@[simp] theorem State.channel_deliver (f : Frame) (i : Fin nCh) : (s.deliver f).channel i = s.channel i := by
  simp [State.deliver]

/-- CREATE_CHANNEL answers only, or puts a channel with legal capacities into a free slot (42_registry.md R180). -/
theorem exec_createChannel_cases (a : Byte) (pa sa : Bool) (oc ic : Byte) :
    (∃ r, exec (.createChannel a pa sa oc ic) s = .next (s.withReply r)) ∨
    ∃ k r, s.channel k = none ∧ (legalCapacity s.params oc && legalCapacity s.params ic) = true ∧
      exec (.createChannel a pa sa oc ic) s = .next ((s.setChannel k (newChannel a pa sa oc ic)).withReply r) := by
  show (∃ r, execCreateChannel a pa sa oc ic s = _) ∨ ∃ k r, _ ∧ _ ∧ execCreateChannel a pa sa oc ic s = _
  unfold execCreateChannel
  rcases s.create_cases a pa sa oc ic with ⟨hcreate, -⟩ | ⟨k, hfree, hlegal, hcreate⟩ <;> rw [hcreate]
  · exact .inl ⟨_, rfl⟩
  · exact .inr ⟨k, _, (State.freeSlot_spec hfree).1, hlegal, rfl⟩

/-- SEND answers only, or puts a packet with a payload in bounds into one outbound queue (46_host.md R324). -/
theorem exec_send_cases (id o : Byte) (payload : List Byte) :
    (∃ r, exec (.send id o payload) s = .next (s.withReply r)) ∨
    ∃ k c q r, s.channel k = some c ∧ payload.length ≤ maxPayload ∧ c.outq.put (sentPacket c o payload) = some q ∧
      exec (.send id o payload) s = .next ((s.setChannel k { c with outq := q }).withReply r) := by
  show (∃ r, execSend id o payload s = _) ∨ ∃ k c q r, _ ∧ _ ∧ _ ∧ execSend id o payload s = _
  unfold execSend
  split
  · exact .inl ⟨_, rfl⟩
  next hshort =>
    cases hslot : s.channelOf id with
    | none => exact .inl ⟨_, rfl⟩
    | some slot =>
      obtain ⟨k, c⟩ := slot
      dsimp only [State.sendOn]
      split
      · exact .inl ⟨_, rfl⟩
      · cases hput : c.outq.put (sentPacket c o payload) with
        | none => exact .inl ⟨_, rfl⟩
        | some q =>
          exact .inr ⟨k, c, q, _, (State.channelOf_eq_some.mp hslot).2, Nat.not_lt.mp hshort, hput, rfl⟩

/-- RECEIVE answers only, or takes the head of one inbound queue (46_host.md R327). -/
theorem exec_receive_cases (id : Byte) :
    (∃ r, exec (.receive id) s = .next (s.withReply r)) ∨
    ∃ k c p q r, s.channel k = some c ∧ c.inq.get = some (p, q) ∧
      exec (.receive id) s = .next ((s.setChannel k { c with inq := q }).withReply r) := by
  show (∃ r, execReceive id s = _) ∨ ∃ k c p q r, _ ∧ _ ∧ execReceive id s = _
  unfold execReceive
  cases hslot : s.channelOf id with
  | none => exact .inl ⟨_, rfl⟩
  | some slot =>
    obtain ⟨k, c⟩ := slot
    dsimp only
    cases hget : c.inq.get with
    | none => exact .inl ⟨_, rfl⟩
    | some taken => exact .inr ⟨k, c, _, _, _, (State.channelOf_eq_some.mp hslot).2, hget, rfl⟩

/-- IS_DATA_AVAILABLE answers only (46_host.md R328). -/
theorem exec_isDataAvailable_answers (id : Byte) :
    ∃ r, exec (.isDataAvailable id) s = .next (s.withReply r) := by
  show ∃ r, execIsDataAvailable id s = _
  unfold execIsDataAvailable
  split <;> exact ⟨_, rfl⟩

/-- CHANNEL_STATE answers only (46_host.md R329). -/
theorem exec_channelState_answers (id : Byte) :
    ∃ r, exec (.channelState id) s = .next (s.withReply r) := by
  show ∃ r, execChannelState id s = _
  unfold execChannelState
  split <;> exact ⟨_, rfl⟩

end Sys2Proof.Machine
end

/-! # The queues -/

section
namespace Sys2Proof.Machine

/-- What 20_memory.md R88 and R95 allow `i` to make of an outbound queue: SEND is its producer, the tick its consumer. -/
abbrev OutboundMoves (i : Instr) (c d : Channel) : Prop :=
  d.outq.items = c.outq.items ∨
  (∃ id o payload q, i = .send id o payload ∧ d.outq.items = c.outq.items ++ [q]) ∨
  (i = .tick ∧ ∃ q, c.outq.items = q :: d.outq.items)

/-- What they allow `i` to make of an inbound queue: the tick is its producer, RECEIVE its consumer. -/
abbrev InboundMoves (i : Instr) (c d : Channel) : Prop :=
  d.inq.items = c.inq.items ∨
  (i = .tick ∧ ∃ q, d.inq.items = c.inq.items ++ [q]) ∨
  (∃ id q, i = .receive id ∧ c.inq.items = q :: d.inq.items)

/-- Every slot that is occupied before and after has its queues moved as they may be. -/
def State.QueuesMove (s : State) (i : Instr) (t : State) : Prop :=
  ∀ j c d, s.channel j = some c → t.channel j = some d → OutboundMoves i c d ∧ InboundMoves i c d

variable {s t : State} {i : Instr}

/-- Nothing moves where no slot changed. -/
theorem State.QueuesMove.of_same (h : ∀ j, t.channel j = s.channel j) : s.QueuesMove i t := by
  intro j c d hc hd
  rw [h j, hc] at hd
  cases hd
  exact ⟨.inl rfl, .inl rfl⟩

/-- A write to slot `k` moves its queues as allowed where the slot was occupied. -/
theorem State.QueuesMove.of_setChannel {k : Fin nCh} {e : Channel} (r : List Byte)
    (h : ∀ c, s.channel k = some c → OutboundMoves i c e ∧ InboundMoves i c e) :
    s.QueuesMove i ((s.setChannel k e).withReply r) := by
  intro j c d hc hd
  rw [State.channel_withReply, State.channel_setChannel] at hd
  split at hd
  next hkj =>
    subst hkj
    cases hd
    exact h c hc
  next => exact State.QueuesMove.of_same (fun _ => rfl) j c d hc hd

theorem State.QueuesMove.of_slotsAdvance (h : s.SlotsAdvance t) : s.QueuesMove .tick t := by
  intro j c d hc hd
  obtain ⟨d', hd', hadvance⟩ := h.at hc
  rw [hd] at hd'
  cases hd'
  exact ⟨hadvance.outq.imp id fun hget => .inr ⟨rfl, hget⟩, hadvance.inq.imp id fun hput => .inl ⟨rfl, hput⟩⟩

/-- Deriving the event touches no slot, and its dispatch advances at most one. -/
theorem exec_tick_queuesMove (s : State) : ∃ t, exec .tick s = .next t ∧ s.QueuesMove .tick t := by
  have hdispatch (u : State) (hu : u.channels = s.channels) (ev : Event) : s.QueuesMove .tick (u.dispatch ev) := by
    intro j c d hc hd
    rw [← State.channel_congr hu] at hc
    exact State.QueuesMove.of_slotsAdvance (u.dispatch_slotsAdvance ev) j c d hc hd
  rcases tick_finds s with hstopped | hnothing | hgarbage | hecho | ⟨k, p, hreceive⟩ | ⟨e, hpending⟩ | htimeout
  · exact ⟨_, exec_tick_stopped hstopped, .of_same fun _ => rfl⟩
  · exact ⟨_, exec_tick_nothing hnothing, .of_same fun _ => rfl⟩
  · exact ⟨_, exec_tick_garbage hgarbage, .of_same fun _ => rfl⟩
  · exact ⟨_, exec_tick_echo hecho, hdispatch s.tickEcho rfl _⟩
  · exact ⟨_, exec_tick_frame hreceive, hdispatch (s.tickFrame k p) rfl _⟩
  · exact ⟨_, exec_tick_pending hpending, hdispatch s.tickPending rfl _⟩
  · exact ⟨_, exec_tick_timeout htimeout, hdispatch s.tickTimeout rfl _⟩

theorem exec_createChannel_queuesMove (s : State) (a : Byte) (pa sa : Bool) (oc ic : Byte) :
    ∃ t, exec (.createChannel a pa sa oc ic) s = .next t ∧ s.QueuesMove (.createChannel a pa sa oc ic) t := by
  rcases exec_createChannel_cases s a pa sa oc ic with ⟨r, h⟩ | ⟨k, r, hfree, -, h⟩
  · exact ⟨_, h, .of_same fun _ => rfl⟩
  · exact ⟨_, h, .of_setChannel r fun c hc => by rw [hfree] at hc; exact nomatch hc⟩

theorem exec_send_queuesMove (s : State) (id o : Byte) (payload : List Byte) :
    ∃ t, exec (.send id o payload) s = .next t ∧ s.QueuesMove (.send id o payload) t := by
  rcases exec_send_cases s id o payload with ⟨r, h⟩ | ⟨k, c, q, r, hc, -, hput, h⟩
  · exact ⟨_, h, .of_same fun _ => rfl⟩
  · refine ⟨_, h, .of_setChannel r fun c' hc' => ?_⟩
    rw [hc] at hc'
    cases hc'
    obtain ⟨-, rfl⟩ := Queue.put_eq_some.mp hput
    exact ⟨.inr (.inl ⟨id, o, payload, _, rfl, rfl⟩), .inl rfl⟩

theorem exec_receive_queuesMove (s : State) (id : Byte) :
    ∃ t, exec (.receive id) s = .next t ∧ s.QueuesMove (.receive id) t := by
  rcases exec_receive_cases s id with ⟨r, h⟩ | ⟨k, c, p, q, r, hc, hget, h⟩
  · exact ⟨_, h, .of_same fun _ => rfl⟩
  · refine ⟨_, h, .of_setChannel r fun c' hc' => ?_⟩
    rw [hc] at hc'
    cases hc'
    exact ⟨.inl rfl, .inr (.inr ⟨id, p, rfl, (Queue.get_eq_some.mp hget).1⟩)⟩

/-- Every instruction but INIT moves the queues as they may be moved. -/
theorem exec_queuesMove (s : State) (i : Instr) (hi : isInit i = false) :
    ∃ t, exec i s = .next t ∧ s.QueuesMove i t := by
  cases i with
  | init r a => exact nomatch hi
  | createChannel a pa sa oc ic => exact exec_createChannel_queuesMove s a pa sa oc ic
  | start =>
    show ∃ t, execStart s = .next t ∧ _
    unfold execStart
    split <;> exact ⟨_, rfl, .of_same fun _ => rfl⟩
  | send id o payload => exact exec_send_queuesMove s id o payload
  | receive id => exact exec_receive_queuesMove s id
  | isDataAvailable id =>
    obtain ⟨r, h⟩ := exec_isDataAvailable_answers s id
    exact ⟨_, h, .of_same fun _ => rfl⟩
  | channelState id =>
    obtain ⟨r, h⟩ := exec_channelState_answers s id
    exact ⟨_, h, .of_same fun _ => rfl⟩
  | readStatus selector => exact ⟨_, rfl, .of_same fun _ => rfl⟩
  | readChannel id selector => exact ⟨_, rfl, .of_same fun _ => rfl⟩
  | tick => exact exec_tick_queuesMove s
  | rxByte b => exact ⟨_, rfl, .of_same ((s.withReply []).channel_receiveByte b)⟩
  | ack => exact ⟨_, rfl, .of_same (s.channel_deliver .ack)⟩
  | nack => exact ⟨_, rfl, .of_same (s.channel_deliver .nack)⟩
  | eot => exact ⟨_, rfl, .of_same (s.channel_deliver .eot)⟩
  | poll a => exact ⟨_, rfl, .of_same (s.channel_deliver (.poll a))⟩
  | select a o payload => exact ⟨_, rfl, .of_same (s.channel_deliver (.select ⟨a, o, payload⟩))⟩
  | respond a o payload => exact ⟨_, rfl, .of_same (s.channel_deliver (.respond ⟨a, o, payload⟩))⟩

/-- Settles O53: the outcome of every instruction moves the queues as they may be moved. -/
theorem queuesHaveOneProducerAndOneConsumer : Obligations.QueuesHaveOneProducerAndOneConsumer := by
  intro i s t j c d hi ht hc hd
  obtain ⟨t', ht', hmove⟩ := exec_queuesMove s i hi
  rw [ht] at ht'
  cases ht'
  exact hmove j c d hc hd

end Sys2Proof.Machine
end

/-! # What a step can do to the storage

A step is a sequence of updates. Most write control fields, timers, counters and actions only; the others are listed
here, with the condition under which a rule makes each. An invariant of the storage that every update keeps is then kept
by every step, whichever rules ran. -/

section
namespace Sys2Proof.Machine

/-- The two states agree on the framer, both packet holders, the length of the transmit frame, the slots and the
parameters. -/
structure State.SameStorage (s t : State) : Prop where
  rxCount  : t.rxCount = s.rxCount := by rfl
  silence  : t.silence = s.silence := by rfl
  rxPacket : t.rxPacket = s.rxPacket := by rfl
  txPacket : t.txPacket = s.txPacket := by rfl
  txLen    : t.txLen = s.txLen := by rfl
  channels : t.channels = s.channels := by rfl
  params   : t.params = s.params := by rfl

/-- The frames a rule can load: a short one, or one that carries the packet in `tx_packet`. -/
inductive State.Loads (s : State) : Frame → Prop where
  | ack : s.Loads .ack
  | nack : s.Loads .nack
  | eot : s.Loads .eot
  | poll (a : Byte) : s.Loads (.poll a)
  | select : s.Loads (.select s.txPacket)
  | respond : s.Loads (.respond s.txPacket)

/-- What a rule can make of the channel `c` of a slot, where `received` is the packet last received. -/
inductive Channel.Update (received : Packet) (c : Channel) : Channel → Prop where
  /-- The lifecycle, the not-respond count, the pre-selection or the re-sync deadline is written. -/
  | mark {d : Channel} (retry : d.retry = c.retry := by simp) (outq : d.outq = c.outq := by simp)
      (inq : d.inq = c.inq := by simp) : c.Update received d
  /-- One more retransmission (44_master.md R262, 45_slave.md R298). -/
  | countRetry {d : Channel} (below : c.retry < maxRetry) (retry : d.retry = c.retry + 1#8 := by simp)
      (outq : d.outq = c.outq := by simp) (inq : d.inq = c.inq := by simp) : c.Update received d
  /-- The packet received is queued (R251, R285). -/
  | enqueue {d : Channel} {q : Queue} (put : c.inq.put received = some q) (retry : d.retry = c.retry := by simp)
      (outq : d.outq = c.outq := by simp) (inq : d.inq = q := by simp) : c.Update received d
  /-- SEND (46_host.md R324). -/
  | send {p : Packet} {q : Queue} (short : p.payload.length ≤ maxPayload) (put : c.outq.put p = some q) :
      c.Update received { c with outq := q }
  /-- RECEIVE (R327). -/
  | receive {p : Packet} {q : Queue} (get : c.inq.get = some (p, q)) : c.Update received { c with inq := q }

/-- `s` with the head `p` of the outbound queue of slot `i` taken out to be sent (44_master.md R258, 45_slave.md R292);
`rest` is what is left of the queue. -/
def State.dequeue (s : State) (i : Fin nCh) (c : Channel) (p : Packet) (rest : Queue) : State :=
  { s.setChannel i { c with outq := rest, retry := 0x00#8 } with txPacket := p }

/-- `t` comes from `s` by updates that the rules make. -/
inductive State.Updates (s : State) : State → Prop where
  | refl : s.Updates s
  | control {u t : State} (h : s.Updates u) (same : u.SameStorage t) : s.Updates t
  | reset {u : State} (h : s.Updates u) : s.Updates (State.resetWith u.params)
  | byte {u : State} (h : s.Updates u) (b : Byte) : s.Updates (u.receiveByte b)
  | clear {u : State} (h : s.Updates u) : s.Updates u.clearFramer
  | decode {u : State} (h : s.Updates u) (f : List Byte) :
      s.Updates { u with rxPacket := (decodeFrame u.params f).2 }
  | load {u : State} (h : s.Updates u) {f : Frame} (hf : u.Loads f) : s.Updates (u.loadTx f)
  | create {u : State} (h : s.Updates u) (i : Fin nCh) (a : Byte) (pa sa : Bool) {oc ic : Byte}
      (legal : (legalCapacity u.params oc && legalCapacity u.params ic) = true) :
      s.Updates (u.setChannel i (newChannel a pa sa oc ic))
  | channel {u : State} (h : s.Updates u) {i : Fin nCh} {c d : Channel} (hc : u.channel i = some c)
      (hd : c.Update u.rxPacket d) : s.Updates (u.setChannel i d)
  | dequeue {u : State} (h : s.Updates u) {i : Fin nCh} {c : Channel} (hc : u.channel i = some c) {p : Packet}
      {rest : Queue} (get : c.outq.get = some (p, rest)) : s.Updates (u.dequeue i c p rest)

variable {s u t : State}

theorem State.Updates.trans (hsu : s.Updates u) (hut : u.Updates t) : s.Updates t := by
  induction hut with
  | refl => exact hsu
  | control _ same ih => exact ih.control same
  | reset _ ih => exact ih.reset
  | byte _ b ih => exact ih.byte b
  | clear _ ih => exact ih.clear
  | decode _ f ih => exact ih.decode f
  | load _ hf ih => exact ih.load hf
  | create _ i a pa sa legal ih => exact ih.create i a pa sa legal
  | channel _ hc hd ih => exact ih.channel hc hd
  | dequeue _ hc get ih => exact ih.dequeue hc get

/-- A rule on the channel of a slot may use that the slot is occupied. -/
theorem State.Updates.onChannel (h : s.Updates u) {i : Fin nCh} {f : Channel → State}
    (hf : ∀ c, u.channel i = some c → s.Updates (f c)) : s.Updates (u.onChannel i f) := by
  rcases u.onChannel_cases i f with ⟨-, heq⟩ | ⟨c, hc, heq⟩ <;> rw [heq]
  · exact h
  · exact hf c hc

/-- Most rules on a channel end with a post. -/
theorem State.Updates.channel_post (h : s.Updates u) {i : Fin nCh} {c d : Channel} {e : Event} {target : TopState}
    (hc : u.channel i = some c) (hd : c.Update u.rxPacket d) : s.Updates ((u.setChannel i d).post e target) :=
  (h.channel hc hd).control {}

/-! ## The master -/

theorem State.visit_updates {i : Fin nCh} {c : Channel} (hc : s.channel i = some c) : s.Updates (s.visit i c) := by
  unfold State.visit State.visitOnlinePoll State.visitOffline
  cases c.state with
  | init => exact .control .refl {}
  | online =>
    dsimp only
    split
    · exact State.Updates.refl.channel_post hc .mark
    split
    · exact State.Updates.refl.channel_post hc .mark
    split
    · exact State.Updates.refl.channel_post hc .mark
    · exact State.Updates.refl.channel_post hc .mark
  | offline =>
    dsimp only
    split
    · exact State.Updates.refl.channel_post hc .mark
    · exact .control .refl {}

theorem State.schedule_updates (s : State) : s.Updates s.schedule := by
  unfold State.schedule
  cases s.advanceRoundRobin with
  | none => exact .control .refl {}
  | some r =>
    have hcur : s.Updates { s with curIndex := r, curValid := true } := .control .refl {}
    exact hcur.onChannel fun c hc => hcur.trans (State.visit_updates hc)

theorem masterIdle_updates (s : State) (ev : Event) : s.Updates (masterIdle s ev) := by
  cases ev with
  | jumpState => exact s.schedule_updates
  | _ => exact .refl

theorem masterPollEntry_updates (s : State) : s.Updates (masterPollEntry s) := by
  have hsub : s.Updates { s with pollSub := .sendDelay } := .control .refl {}
  exact State.Updates.refl.onChannel fun c _ => (hsub.load (.poll c.address)).control {}

theorem masterPollUnanswered_updates (s : State) : s.Updates (masterPollUnanswered s) :=
  State.Updates.refl.onChannel fun _ hc => State.Updates.refl.channel_post hc .mark

theorem masterPollEot_updates (s : State) : s.Updates (masterPollEot s) :=
  State.Updates.refl.onChannel fun _ hc => State.Updates.refl.channel_post hc .mark

theorem masterPollRespond_updates (s : State) : s.Updates (masterPollRespond s) := by
  refine State.Updates.refl.onChannel fun c hc => ?_
  split
  · cases hput : c.inq.put s.rxPacket with
    | none => exact ((State.Updates.refl.channel hc (.mark (d := s.answeredChannel c))).load .ack).control {}
    | some q =>
      exact ((State.Updates.refl.channel hc (.enqueue (d := { s.answeredChannel c with inq := q }) hput)).load
        .ack).control {}
  · exact .refl

theorem masterPollFrame_updates (s : State) : s.Updates (masterPollFrame s) := by
  unfold masterPollFrame
  split
  case h_1 => exact masterPollEot_updates s
  case h_2 => exact masterPollRespond_updates s
  case h_3 => exact (State.Updates.refl.load .nack).control {}
  case h_4 => exact .refl

theorem masterPoll_updates (s : State) (ev : Event) : s.Updates (masterPoll s ev) := by
  unfold masterPoll
  split
  case h_1 => exact .control .refl {}
  case h_2 => exact .control .refl {}
  case h_3 => exact masterPollUnanswered_updates s
  case h_4 => exact masterPollFrame_updates s
  case h_5 => exact masterPollUnanswered_updates s
  case h_6 => exact .control .refl {}
  case h_7 => exact .refl

theorem masterSelectEntry_updates (s : State) : s.Updates (masterSelectEntry s) := by
  refine State.Updates.refl.onChannel fun c hc => ?_
  cases hget : c.outq.get with
  | none => exact .control .refl {}
  | some taken => exact ((State.Updates.refl.dequeue hc hget).load .select).control {}

theorem masterSelectNack_updates (s : State) : s.Updates (masterSelectNack s) := by
  refine State.Updates.refl.onChannel fun c hc => ?_
  split
  next hbelow =>
    exact (State.Updates.refl.channel hc (.countRetry (d := { c with retry := c.retry + 1#8 }) hbelow)).control {}
  next => exact .control .refl {}

theorem masterSelectFrame_updates (s : State) : s.Updates (masterSelectFrame s) := by
  unfold masterSelectFrame
  split
  case h_1 => exact .control .refl {}
  case h_2 => exact masterSelectNack_updates s
  case h_3 => exact .refl

theorem masterSelect_updates (s : State) (ev : Event) : s.Updates (masterSelect s ev) := by
  unfold masterSelect
  split
  case h_1 => exact .control .refl {}
  case h_2 => exact .control .refl {}
  case h_3 => exact masterSelectFrame_updates s
  case h_4 => exact .control .refl {}
  case h_5 => exact .refl

/-! ## The slave -/

theorem slaveIdle_updates (s : State) (ev : Event) : s.Updates (slaveIdle s ev) := by
  cases ev with
  | jumpState =>
    show s.Updates (slaveIdleJump s)
    unfold slaveIdleJump
    split
    · exact .control .refl {}
    next c hc =>
      exact (State.Updates.refl.channel hc
        (.mark (d := { c with resync := armTimer s.tickCount s.params.tResyncOnline }))).control {}
  | _ => exact .refl

/-- The state timer takes over a deadline, or stops. -/
theorem State.Updates.mirror (h : s.Updates u) : s.Updates u.mirror := by
  refine h.onChannel fun c _ => ?_
  split <;> exact h.control {}

theorem slaveSelectPoll_updates (s : State) : s.Updates (slaveSelectPoll s) := by
  unfold slaveSelectPoll
  split
  · exact State.Updates.refl.onChannel fun _ hc => State.Updates.refl.channel_post hc .mark
  · exact .refl

theorem slaveSelectAnswer_updates (s : State) : s.Updates (slaveSelectAnswer s) := by
  unfold slaveSelectAnswer
  split
  · exact (State.Updates.refl.load .ack).control {}
  · exact .refl

theorem slaveSelectData_updates (s : State) : s.Updates (slaveSelectData s) := by
  unfold slaveSelectData
  split
  · refine State.Updates.refl.onChannel fun c hc => ?_
    cases hput : c.inq.put s.rxPacket with
    | none => exact (State.Updates.refl.control {}).trans (slaveSelectAnswer_updates _)
    | some q => exact (State.Updates.refl.channel hc (.enqueue hput)).trans (slaveSelectAnswer_updates _)
  · exact .refl

theorem slaveSelectError_updates (s : State) : s.Updates (slaveSelectError s) := by
  unfold slaveSelectError
  split
  · exact (State.Updates.refl.load .nack).control {}
  · exact .refl

theorem slaveSelectFrame_updates (s : State) : s.Updates (slaveSelectFrame s) := by
  unfold slaveSelectFrame
  split
  case h_1 => exact slaveSelectPoll_updates s
  case h_2 => exact slaveSelectData_updates s
  case h_3 => exact slaveSelectError_updates s
  case h_4 => exact .refl

theorem slaveSelect_updates (s : State) (ev : Event) : s.Updates (slaveSelect s ev) := by
  unfold slaveSelect
  split
  case h_1 => exact slaveSelectFrame_updates s
  case h_2 => exact State.Updates.refl.onChannel fun _ hc => State.Updates.refl.channel hc .mark
  case h_3 =>
    have hsent : s.Updates { s.sendFrame with selectSub := .sendWaitOrReceiveWait } := .control .refl {}
    exact hsent.mirror
  case h_4 => exact .refl

theorem slavePollEntry_updates (s : State) : s.Updates (slavePollEntry s) := by
  have noData : s.Updates (slavePollNoData s) := (State.Updates.refl.load .eot).control {}
  refine State.Updates.refl.onChannel fun c hc => ?_
  split
  · cases hget : c.outq.get with
    | none => exact noData
    | some taken => exact ((State.Updates.refl.dequeue hc hget).load .respond).control {}
  · exact noData

theorem slavePollEcho_updates (s : State) : s.Updates (slavePollEcho s) := by
  unfold slavePollEcho
  split
  · exact .control .refl {}
  split
  · exact .control .refl {}
  · exact .refl

theorem slavePollAck_updates (s : State) : s.Updates (slavePollAck s) :=
  State.Updates.refl.onChannel fun c hc =>
    ((State.Updates.refl.channel hc (.mark (d := { c with notRespond := 0x00#8 }))).load .eot).control {}

theorem slavePollNack_updates (s : State) : s.Updates (slavePollNack s) := by
  refine State.Updates.refl.onChannel fun c hc => ?_
  split
  next hbelow =>
    exact (State.Updates.refl.channel hc
      (.countRetry (d := { c with notRespond := 0x00#8, retry := c.retry + 1#8 }) hbelow)).control {}
  next =>
    exact ((State.Updates.refl.channel hc (.mark (d := { c with notRespond := 0x00#8 }))).load .eot).control {}

theorem slavePollTimeout_updates (s : State) : s.Updates (slavePollTimeout s) :=
  State.Updates.refl.onChannel fun _ hc => State.Updates.refl.channel_post hc .mark

theorem slavePollFrame_updates (s : State) : s.Updates (slavePollFrame s) := by
  have habort : s.Updates (slavePollAbort s) := .control .refl {}
  unfold slavePollFrame
  split
  case h_1 => exact slavePollAck_updates s
  case h_2 => exact slavePollNack_updates s
  case h_3 => exact habort
  case h_4 => exact habort
  case h_5 => exact habort
  case h_6 => exact .refl

theorem slavePoll_updates (s : State) (ev : Event) : s.Updates (slavePoll s ev) := by
  unfold slavePoll
  split
  case h_1 => exact .control .refl {}
  case h_2 => exact slavePollEcho_updates s
  case h_3 => exact .control .refl {}
  case h_4 => exact slavePollFrame_updates s
  case h_5 => exact slavePollTimeout_updates s
  case h_6 => exact .control .refl {}
  case h_7 => exact .refl

/-! ## The tick -/

theorem initHandler_updates (s : State) (ev : Event) : s.Updates (initHandler s ev) := by
  cases ev with
  | init => exact State.Updates.refl.clear.control {}
  | _ => exact .refl

theorem State.handle_updates (s : State) (ev : Event) : s.Updates (s.handle ev) := by
  unfold State.handle
  split
  case h_1 => exact initHandler_updates s ev
  case h_2 => exact masterIdle_updates s ev
  case h_3 => exact slaveIdle_updates s ev
  case h_4 => exact masterPoll_updates s ev
  case h_5 => exact slavePoll_updates s ev
  case h_6 => exact masterSelect_updates s ev
  case h_7 => exact slaveSelect_updates s ev

theorem State.entryHook_updates (s : State) (target : TopState) : s.Updates (s.entryHook target) := by
  unfold State.entryHook
  split
  case h_1 => exact .refl
  case h_2 => exact .refl
  case h_3 => exact masterPollEntry_updates s
  case h_4 => exact slavePollEntry_updates s
  case h_5 => exact masterSelectEntry_updates s
  case h_6 =>
    have hsub : s.Updates { s with selectSub := .sendWaitOrReceiveWait } := .control .refl {}
    exact hsub.mirror

theorem State.changeTop_updates (s : State) (target : TopState) : s.Updates (s.changeTop target) := by
  unfold State.changeTop
  split
  · exact .refl
  · have hexit : s.Updates { s.exitHook with curState := target } := .control .refl {}
    exact hexit.trans (State.entryHook_updates _ target)

theorem State.Updates.dispatch (h : s.Updates u) (ev : Event) : s.Updates (u.dispatch ev) := by
  unfold State.dispatch
  split
  · exact h
  · exact (h.trans (u.changeTop_updates _)).trans (State.handle_updates _ ev)

theorem exec_tick_updates (s : State) : ∃ t, exec .tick s = .next t ∧ s.Updates t := by
  rcases tick_finds s with hstopped | hnothing | hgarbage | hecho | ⟨k, p, hreceive⟩ | ⟨e, hpending⟩ | htimeout
  · exact ⟨_, exec_tick_stopped hstopped, .control .refl {}⟩
  · exact ⟨_, exec_tick_nothing hnothing, .control .refl {}⟩
  · exact ⟨_, exec_tick_garbage hgarbage, State.Updates.refl.clear.control {}⟩
  · have hecho' : s.Updates s.tickEcho := State.Updates.refl.clear.control {}
    exact ⟨_, exec_tick_echo hecho, hecho'.dispatch _⟩
  · have ⟨_, _, hdecode, _⟩ := hreceive
    have hframe : s.Updates (s.tickFrame k p) :=
      (State.Updates.refl.clear.decode s.rxFrame).control { rxPacket := congrArg Prod.snd hdecode.symm }
    exact ⟨_, exec_tick_frame hreceive, hframe.dispatch _⟩
  · have hpending' : s.Updates s.tickPending := .control .refl {}
    exact ⟨_, exec_tick_pending hpending, hpending'.dispatch _⟩
  · have htimeout' : s.Updates s.tickTimeout := .control .refl {}
    exact ⟨_, exec_tick_timeout htimeout, htimeout'.dispatch _⟩

/-! ## The step -/

theorem State.Updates.receiveBytes (h : s.Updates u) (bytes : List Byte) : s.Updates (u.receiveBytes bytes) := by
  induction bytes generalizing u with
  | nil => exact h
  | cons b bs ih => exact ih (h.byte b)

theorem State.Updates.withReply (h : s.Updates u) (r : List Byte) : s.Updates (u.withReply r) := h.control {}

theorem State.deliver_updates (s : State) (f : Frame) : s.Updates (s.deliver f) :=
  (State.Updates.refl.withReply []).receiveBytes _

/-- Every instruction answers a next state that such updates make. -/
theorem exec_updates (s : State) (i : Instr) : ∃ t, exec i s = .next t ∧ s.Updates t := by
  have answer (r : List Byte) : s.Updates (s.withReply r) := State.Updates.refl.withReply r
  cases i with
  | init r a => exact ⟨_, rfl, State.Updates.refl.reset.control {}⟩
  | createChannel a pa sa oc ic =>
    rcases exec_createChannel_cases s a pa sa oc ic with ⟨r, h⟩ | ⟨k, r, -, hlegal, h⟩
    · exact ⟨_, h, answer r⟩
    · exact ⟨_, h, (State.Updates.refl.create k a pa sa hlegal).withReply r⟩
  | start =>
    show ∃ t, execStart s = .next t ∧ _
    unfold execStart
    split <;> exact ⟨_, rfl, .control .refl {}⟩
  | send id o payload =>
    rcases exec_send_cases s id o payload with ⟨r, h⟩ | ⟨k, c, q, r, hc, hshort, hput, h⟩
    · exact ⟨_, h, answer r⟩
    · exact ⟨_, h, (State.Updates.refl.channel hc (.send hshort hput)).withReply r⟩
  | receive id =>
    rcases exec_receive_cases s id with ⟨r, h⟩ | ⟨k, c, p, q, r, hc, hget, h⟩
    · exact ⟨_, h, answer r⟩
    · exact ⟨_, h, (State.Updates.refl.channel hc (.receive hget)).withReply r⟩
  | isDataAvailable id =>
    obtain ⟨r, h⟩ := exec_isDataAvailable_answers s id
    exact ⟨_, h, answer r⟩
  | channelState id =>
    obtain ⟨r, h⟩ := exec_channelState_answers s id
    exact ⟨_, h, answer r⟩
  | readStatus selector => exact ⟨_, rfl, answer _⟩
  | readChannel id selector => exact ⟨_, rfl, answer _⟩
  | tick => exact exec_tick_updates s
  | rxByte b => exact ⟨_, rfl, (answer []).byte b⟩
  | ack => exact ⟨_, rfl, s.deliver_updates .ack⟩
  | nack => exact ⟨_, rfl, s.deliver_updates .nack⟩
  | eot => exact ⟨_, rfl, s.deliver_updates .eot⟩
  | poll a => exact ⟨_, rfl, s.deliver_updates (.poll a)⟩
  | select a o payload => exact ⟨_, rfl, s.deliver_updates (.select ⟨a, o, payload⟩)⟩
  | respond a o payload => exact ⟨_, rfl, s.deliver_updates (.respond ⟨a, o, payload⟩)⟩

/-- Every step is made of these updates, whether its input decodes or not. -/
theorem step_updates (h : step s = .next t) : s.Updates t := by
  have htake (rest : List Strobe) : s.Updates { s with input := rest } := .control .refl {}
  rcases step_cases s with ⟨-, hstep⟩ | ⟨x, rest, i, -, -, hstep⟩ | ⟨x, rest, e, -, -, hstep⟩ <;> rw [hstep] at h
  · cases h
    exact .refl
  · obtain ⟨t', ht', hupdates⟩ := exec_updates { s with input := rest } i
    rw [h] at ht'
    cases ht'
    exact (htake rest).trans hupdates
  · cases h
    cases x with
    | record bytes => exact (htake rest).withReply illegalReply
    | frame bytes => exact ((htake rest).withReply []).receiveBytes bytes

end Sys2Proof.Machine
end

/-! # The buffers and the framer -/

section
namespace Sys2Proof.Machine

variable {s t : State}

/-- A byte keeps the framer in bounds (43_engine.md R221): it is counted while there is room, and the silence timer is
armed with it. -/
theorem State.FramerOk.receiveByte (h : s.FramerOk) (b : Byte) : (s.receiveByte b).FramerOk := by
  by_cases hroom : s.rxCount.toNat < maxFrame
  · rw [State.receiveByte_room hroom]
    have hcount := succ9_toNat hroom
    exact ⟨by dsimp only; omega, iff_of_true rfl (by dsimp only; omega)⟩
  · have hfull := Nat.not_lt.mp hroom
    rw [State.receiveByte_full hfull]
    exact ⟨h.1, iff_of_true rfl (Nat.lt_of_lt_of_le (by decide) hfull)⟩

/-- The framer is written by a byte, by the hand-off and by a reset only. -/
theorem State.Updates.framerOk (h : s.Updates t) (hs : s.FramerOk) : t.FramerOk := by
  induction h with
  | refl => exact hs
  | control _ same ih =>
    rw [State.FramerOk, same.rxCount, same.silence]
    exact ih
  | reset => exact State.resetWith_framerOk _
  | byte _ b ih => exact ih.receiveByte b
  | clear => exact ⟨Nat.zero_le _, by simp⟩
  | decode _ _ ih => exact ih
  | load _ _ ih => exact ih
  | create _ _ _ _ _ _ ih => exact ih
  | channel _ _ _ ih => exact ih
  | dequeue _ _ _ ih => exact ih

/-- A step keeps the canonical form: it takes a state alike to itself to one alike to itself. -/
theorem step_buffersOk (hs : s.BuffersOk) (h : step s = .next t) : t.BuffersOk := by
  have halike := step_alike (State.Alike.refl hs)
  rw [h] at halike
  obtain ⟨halike⟩ := halike
  obtain ⟨-, ht, -⟩ := State.alike_iff.mp halike
  exact ht

/-- Settles O47: the canonical form by what `step_alike` says of a state and itself, the framer by the updates. -/
theorem everyStepKeepsTheBuffers : Obligations.EveryStepKeepsTheBuffers :=
  fun _ _ hbuffers hframer h => ⟨step_buffersOk hbuffers h, (step_updates h).framerOk hframer⟩

end Sys2Proof.Machine
end

/-! # The storage bounds -/

section
namespace Sys2Proof.Machine

/-! ## Packets -/

theorem payloadOk_iff {x : Packet} : payloadOk x = true ↔ x.payload.length ≤ 50 := decide_eq_true_iff

/-- A packet read by position, its address byte at index `i`, is in bounds where at most 54 bytes stand from there on:
address, opcode, 50 bytes of payload, ETX and the block check (40_codec.md R150). -/
theorem payloadOk_frameFields {f : List Byte} {i : Nat} (h : f.length ≤ i + 54) :
    payloadOk (frameFields f i) = true := by
  rw [payloadOk_iff]
  simp only [frameFields, slice, List.length_drop, List.length_take]
  omega

/-- Every packet that the codec answers is in bounds: a longer frame of either shape decodes to NONE with no payload
(R154, R155). -/
theorem payloadOk_decodeFrame (p : Params) (f : List Byte) : payloadOk (decodeFrame p f).2 = true := by
  have hempty (a : Byte) : payloadOk (emptyPacket a) = true := rfl
  have heot : payloadOk (decodeEotArm p f).2 = true := by
    unfold decodeEotArm
    dsimp only
    split
    · exact hempty _
    split
    · exact hempty _
    split
    · split
      · exact hempty _
      next hlen => split <;> exact payloadOk_frameFields (by omega)
    · exact hempty _
  have hstx : payloadOk (decodeStxArm p f).2 = true := by
    unfold decodeStxArm
    dsimp only
    split
    · split
      · exact hempty _
      next hlen =>
        split
        · exact payloadOk_frameFields (by omega)
        · exact hempty _
    · exact hempty _
  unfold decodeFrame
  dsimp only
  split
  · exact hempty _
  split
  · exact hempty _
  split
  · exact heot
  split
  · exact hstx
  · exact hempty _

variable {s t : State} {p : Params}

/-! ## Queues and channels -/

theorem Queue.ok_iff {q : Queue} :
    q.ok p = true ↔ legalCapacity p q.cap = true ∧ q.items.length ≤ q.cap.toNat ∧ ∀ x ∈ q.items, payloadOk x = true := by
  simp [Queue.ok, and_assoc]

theorem Channel.ok_iff {c : Channel} :
    c.ok p = true ↔ c.retry ≤ maxRetry ∧ c.outq.ok p = true ∧ c.inq.ok p = true := by
  simp [Channel.ok, and_assoc]

theorem Queue.ok_empty {cap : Byte} (h : legalCapacity p cap = true) : (Queue.empty cap).ok p = true :=
  Queue.ok_iff.mpr ⟨h, Nat.zero_le _, nofun⟩

/-- A packet is queued only where there is room (20_memory.md R85). -/
theorem Queue.ok_put {q q' : Queue} {x : Packet} (h : q.ok p = true) (hx : payloadOk x = true)
    (put : q.put x = some q') : q'.ok p = true := by
  obtain ⟨hcap, hlen, hall⟩ := Queue.ok_iff.mp h
  obtain ⟨hroom, rfl⟩ := Queue.put_eq_some.mp put
  refine Queue.ok_iff.mpr ⟨hcap, ?_, fun y hy => ?_⟩
  · simp only [List.length_append, List.length_singleton]
    omega
  · rcases List.mem_append.mp hy with hy | hy
    · exact hall y hy
    · rwa [List.mem_singleton.mp hy]

/-- What `get` answers was in the queue, and the rest is no longer (R86). -/
theorem Queue.ok_get {q q' : Queue} {x : Packet} (h : q.ok p = true) (get : q.get = some (x, q')) :
    payloadOk x = true ∧ q'.ok p = true := by
  obtain ⟨hcap, hlen, hall⟩ := Queue.ok_iff.mp h
  obtain ⟨hitems, hcap'⟩ := Queue.get_eq_some.mp get
  rw [hitems] at hlen hall
  refine ⟨hall x List.mem_cons_self, Queue.ok_iff.mpr ⟨by rwa [hcap'], ?_, fun y hy => ?_⟩⟩
  · rw [hcap']
    exact Nat.le_of_succ_le hlen
  · exact hall y (List.mem_cons_of_mem x hy)

theorem Channel.ok_newChannel {a oc ic : Byte} {pa sa : Bool}
    (legal : (legalCapacity p oc && legalCapacity p ic) = true) : (newChannel a pa sa oc ic).ok p = true := by
  obtain ⟨hout, hin⟩ := Bool.and_eq_true_iff.mp legal
  exact Channel.ok_iff.mpr ⟨BitVec.le_def.mpr (Nat.zero_le _), Queue.ok_empty hout, Queue.ok_empty hin⟩

/-- Every update keeps a channel in bounds: a retransmission is counted below the limit only (10_state.md R61), and a
packet queued is in bounds. -/
theorem Channel.Update.ok {received : Packet} {c d : Channel} (h : c.Update received d)
    (hreceived : payloadOk received = true) (hc : c.ok p = true) : d.ok p = true := by
  obtain ⟨hretry, hout, hin⟩ := Channel.ok_iff.mp hc
  rw [Channel.ok_iff]
  cases h with
  | mark retry outq inq =>
    rw [retry, outq, inq]
    exact ⟨hretry, hout, hin⟩
  | countRetry below retry outq inq =>
    rw [retry, outq, inq]
    refine ⟨?_, hout, hin⟩
    simp only [maxRetry] at below ⊢
    bv_omega
  | enqueue put retry outq inq =>
    rw [retry, outq, inq]
    exact ⟨hretry, hout, Queue.ok_put hin hreceived put⟩
  | send short put => exact ⟨hretry, Queue.ok_put hout (payloadOk_iff.mpr short) put, hin⟩
  | receive get => exact ⟨hretry, hout, (Queue.ok_get hin get).2⟩

/-! ## The state -/

theorem State.PacketsOk.channel_ok (h : s.PacketsOk) {i : Fin nCh} {c : Channel} (hc : s.channel i = some c) :
    c.ok s.params = true := by
  simpa [hc] using h.1 i

theorem State.PacketsOk.setChannel (h : s.PacketsOk) (i : Fin nCh) {c : Channel} (hc : c.ok s.params = true) :
    (s.setChannel i c).PacketsOk := by
  obtain ⟨hslots, hrest⟩ := h
  refine ⟨fun j => ?_, hrest⟩
  rw [State.channel_setChannel]
  split
  · simpa using hc
  · exact hslots j

/-- The longest frame that a rule loads is a SELECT with 50 payload bytes (30_encoding.md R105). -/
theorem State.Loads.length_le {f : Frame} (hf : s.Loads f) (h : payloadOk s.txPacket = true) :
    (encodeFrame s.params f).length ≤ 56 := by
  have hpayload := payloadOk_iff.mp h
  cases hf with
  | ack => simp [encodeFrame]
  | nack => simp [encodeFrame]
  | eot => simp [encodeFrame]
  | poll a => simp [encodeFrame]
  | select =>
    simp only [encodeFrame, frameBody, List.length_append, List.length_cons, List.length_nil]
    omega
  | respond =>
    simp only [encodeFrame, frameBody, List.length_append, List.length_cons, List.length_nil]
    omega

theorem State.PacketsOk.loadTx (h : s.PacketsOk) {f : Frame} (hf : s.Loads f) : (s.loadTx f).PacketsOk := by
  obtain ⟨hslots, hrx, htx, -⟩ := h
  refine ⟨hslots, hrx, htx, ?_⟩
  show (BitVec.ofNat 9 _).toNat ≤ 56
  rw [BitVec.toNat_ofNat]
  exact (Nat.mod_le _ _).trans (hf.length_le htx)

theorem State.PacketsOk.dequeue (h : s.PacketsOk) {i : Fin nCh} {c : Channel} (hc : s.channel i = some c) {x : Packet}
    {rest : Queue} (get : c.outq.get = some (x, rest)) : (s.dequeue i c x rest).PacketsOk := by
  obtain ⟨-, hout, hin⟩ := Channel.ok_iff.mp (h.channel_ok hc)
  obtain ⟨hx, hrest⟩ := Queue.ok_get hout get
  have hd : Channel.ok s.params { c with outq := rest, retry := 0x00#8 } = true :=
    Channel.ok_iff.mpr ⟨BitVec.le_def.mpr (Nat.zero_le _), hrest, hin⟩
  obtain ⟨hslots, hrx, -, hlen⟩ := h.setChannel i hd
  exact ⟨hslots, hrx, hx, hlen⟩

theorem State.PacketsOk.receiveByte (h : s.PacketsOk) (b : Byte) : (s.receiveByte b).PacketsOk := by
  unfold State.receiveByte State.storeByte
  split <;> exact h

/-- Every update keeps the storage bounds. -/
theorem State.Updates.packetsOk (h : s.Updates t) (hs : s.PacketsOk) : t.PacketsOk := by
  induction h with
  | refl => exact hs
  | control _ same ih =>
    obtain ⟨hslots, hrest⟩ := ih
    refine ⟨fun i => ?_, by rwa [same.rxPacket, same.txPacket, same.txLen]⟩
    rw [State.channel_congr same.channels, same.params]
    exact hslots i
  | reset => exact State.resetWith_packetsOk _
  | byte _ b ih => exact ih.receiveByte b
  | clear _ ih => exact ih
  | decode _ f ih =>
    obtain ⟨hslots, -, hrest⟩ := ih
    exact ⟨hslots, payloadOk_decodeFrame _ f, hrest⟩
  | load _ hf ih => exact ih.loadTx hf
  | create _ i a pa sa legal ih => exact ih.setChannel i (Channel.ok_newChannel legal)
  | channel _ hc hd ih =>
    have ⟨_, hreceived, _⟩ := ih
    exact ih.setChannel _ (hd.ok hreceived (ih.channel_ok hc))
  | dequeue _ hc get ih => exact ih.dequeue hc get

/-- Settles O48: a step is made of updates, and each keeps the bounds. -/
theorem everyStepKeepsTheStorageBounds : Obligations.EveryStepKeepsTheStorageBounds :=
  fun _ _ hs h => (step_updates h).packetsOk hs

end Sys2Proof.Machine
end

/-! Proofs of the statements about the encodings (spec/30_encoding.md, 40_codec.md): encoder and decoders agree in both
directions, an illegal record changes nothing, and a wire frame delivers its bytes. -/

/-! # Host command records

For each form of operands, what its decoder accepts, said once as an equivalence. One direction reads an encoding back,
the other shows that an accepted record has one spelling. -/

section
namespace Sys2Proof

variable {i : Instr} {bs : List Byte}

/-! ## Operands -/

theorem Role.exists_code_eq {r : Byte} (h : r.toNat ≤ 1) : ∃ role : Role, r = role.code := by
  obtain rfl | rfl : r = 0x00#8 ∨ r = 0x01#8 := by bv_omega
  · exact ⟨.master, rfl⟩
  · exact ⟨.slave, rfl⟩

/-- A byte whose reserved bits are zero is the flags byte of its two flags (R115). -/
theorem flagsByte_eq_iff {f : Byte} {pa sa : Bool} :
    f = flagsByte pa sa ↔ f.extractLsb' 2 6 = 0#6 ∧ f.getLsbD 0 = pa ∧ f.getLsbD 1 = sa := by
  revert f pa sa
  decide

theorem decodeInit_eq_ok : decodeInit bs = .ok i ↔ ∃ r a, i = .init r a ∧ bs = [r.code, a] := by
  constructor
  · intro h
    unfold decodeInit at h
    split at h
    · split at h
      next hr => cases h; exact ⟨.master, _, rfl, by rw [hr]; rfl⟩
      split at h
      next hr => cases h; exact ⟨.slave, _, rfl, by rw [hr]; rfl⟩
      · exact nomatch h
    · exact nomatch h
  · rintro ⟨r, a, rfl, rfl⟩
    cases r <;> rfl

theorem decodeCreateChannel_eq_ok :
    decodeCreateChannel bs = .ok i ↔
      ∃ a pa sa oc ic, i = .createChannel a pa sa oc ic ∧ bs = [a, flagsByte pa sa, oc, ic] := by
  constructor
  · intro h
    unfold decodeCreateChannel at h
    split at h
    · split at h
      next hreserved => cases h; exact ⟨_, _, _, _, _, rfl, by rw [← flagsByte_eq_iff.mpr ⟨hreserved, rfl, rfl⟩]⟩
      · exact nomatch h
    · exact nomatch h
  · rintro ⟨a, pa, sa, oc, ic, rfl, rfl⟩
    obtain ⟨hreserved, hpa, hsa⟩ := flagsByte_eq_iff.mp (rfl : flagsByte pa sa = flagsByte pa sa)
    simp only [decodeCreateChannel, hreserved, hpa, hsa, if_true]

/-- The length byte of SEND is the payload's length, which fits a byte (R113). -/
theorem decodeSend_eq_ok :
    decodeSend bs = .ok i ↔
      ∃ id o payload, i = .send id o payload ∧ payload.length ≤ 255 ∧
        bs = id :: o :: BitVec.ofNat 8 payload.length :: payload := by
  constructor
  · intro h
    unfold decodeSend at h
    split at h
    next n payload =>
      split at h
      next hlen => cases h; exact ⟨_, _, payload, rfl, by omega, by rw [hlen, BitVec.ofNat_toNat, BitVec.setWidth_eq]⟩
      · exact nomatch h
    · exact nomatch h
  · rintro ⟨id, o, payload, rfl, hlen, rfl⟩
    have hbyte : (BitVec.ofNat 8 payload.length).toNat = payload.length := by
      rw [BitVec.toNat_ofNat]
      omega
    simp [decodeSend, hbyte]

theorem decodeBare_eq_ok {j : Instr} : decodeBare j bs = .ok i ↔ i = j ∧ bs = [] := by
  cases bs <;> simp [decodeBare, eq_comm]

theorem decodeOne_eq_ok {mk : Byte → Instr} : decodeOne mk bs = .ok i ↔ ∃ x, i = mk x ∧ bs = [x] := by
  constructor
  · intro h
    unfold decodeOne at h
    split at h
    · cases h; exact ⟨_, rfl, rfl⟩
    · exact nomatch h
  · rintro ⟨x, rfl, rfl⟩
    rfl

theorem exists_decodeOne_eq_ok {mk : Byte → Instr} (h : bs.length = 1) : ∃ i, decodeOne mk bs = .ok i := by
  obtain ⟨x, rfl⟩ := List.length_eq_one_iff.mp h
  exact ⟨mk x, rfl⟩

theorem decodeReadStatus_eq_ok :
    decodeReadStatus bs = .ok i ↔ ∃ s, i = .readStatus s ∧ statusSelectorOk s = true ∧ bs = [s] := by
  constructor
  · intro h
    unfold decodeReadStatus at h
    split at h
    · split at h
      next hs => cases h; exact ⟨_, rfl, hs, rfl⟩
      · exact nomatch h
    · exact nomatch h
  · rintro ⟨s, rfl, hs, rfl⟩
    simp [decodeReadStatus, hs]

theorem decodeReadChannel_eq_ok :
    decodeReadChannel bs = .ok i ↔
      ∃ id s, i = .readChannel id s ∧ slotOk id = true ∧ channelSelectorOk s = true ∧ bs = [id, s] := by
  constructor
  · intro h
    unfold decodeReadChannel at h
    split at h
    · split at h
      next hid =>
        split at h
        next hs => cases h; exact ⟨_, _, rfl, hid, hs, rfl⟩
        · exact nomatch h
      · exact nomatch h
    · exact nomatch h
  · rintro ⟨id, s, rfl, hid, hs, rfl⟩
    simp [decodeReadChannel, hid, hs]

/-! ## Records -/

/-- An opcode byte is one of the eleven of R114, or one that R116 names as unknown. -/
theorem opcode_cases (op : Byte) :
    op = 0x01#8 ∨ op = 0x02#8 ∨ op = 0x03#8 ∨ op = 0x04#8 ∨ op = 0x05#8 ∨ op = 0x06#8 ∨ op = 0x07#8 ∨ op = 0x08#8 ∨
      op = 0x09#8 ∨ op = 0x0A#8 ∨ op = 0x0B#8 ∨ op.toNat = 0 ∨ 0x0C ≤ op.toNat := by
  bv_omega

theorem decodeRecord_unknownOpcode {op : Byte} (h : op.toNat = 0 ∨ 0x0C ≤ op.toNat) (rest : List Byte) :
    decodeRecord (op :: rest) = .error .unknownOpcode := by
  simp only [decodeRecord]
  split
  case h_12 => rfl
  all_goals omega

/-- The instructions whose encoding is a record are read back from it, the legal ones only. -/
theorem decodeRecord_of_encode {p : Params} {f : List Byte} (henc : encode p i = .record f)
    (hwf : i.wellFormed = true) : decodeRecord f = .ok i := by
  cases i <;> cases henc
  case init r a => exact decodeInit_eq_ok.mpr ⟨r, a, rfl, rfl⟩
  case createChannel a pa sa oc ic => exact decodeCreateChannel_eq_ok.mpr ⟨a, pa, sa, oc, ic, rfl, rfl⟩
  case send id o payload => exact decodeSend_eq_ok.mpr ⟨id, o, payload, rfl, of_decide_eq_true hwf, rfl⟩
  case readStatus s => exact decodeReadStatus_eq_ok.mpr ⟨s, rfl, hwf, rfl⟩
  case readChannel id s =>
    obtain ⟨hid, hs⟩ := Bool.and_eq_true_iff.mp hwf
    exact decodeReadChannel_eq_ok.mpr ⟨id, s, rfl, hid, hs, rfl⟩
  all_goals rfl

/-- A record that decodes is the encoding of a legal instruction. -/
theorem encode_of_decodeRecord {p : Params} {f : List Byte} (h : decodeRecord f = .ok i) :
    encode p i = .record f ∧ i.wellFormed = true := by
  cases f with
  | nil => exact nomatch h
  | cons op rest =>
    obtain rfl | rfl | rfl | rfl | rfl | rfl | rfl | rfl | rfl | rfl | rfl | hop := opcode_cases op
    · obtain ⟨r, a, rfl, rfl⟩ := decodeInit_eq_ok.mp h
      exact ⟨rfl, rfl⟩
    · obtain ⟨a, pa, sa, oc, ic, rfl, rfl⟩ := decodeCreateChannel_eq_ok.mp h
      exact ⟨rfl, rfl⟩
    · obtain ⟨rfl, rfl⟩ := decodeBare_eq_ok.mp h
      exact ⟨rfl, rfl⟩
    · obtain ⟨id, o, payload, rfl, hlen, rfl⟩ := decodeSend_eq_ok.mp h
      exact ⟨rfl, decide_eq_true hlen⟩
    · obtain ⟨id, rfl, rfl⟩ := decodeOne_eq_ok.mp h
      exact ⟨rfl, rfl⟩
    · obtain ⟨id, rfl, rfl⟩ := decodeOne_eq_ok.mp h
      exact ⟨rfl, rfl⟩
    · obtain ⟨id, rfl, rfl⟩ := decodeOne_eq_ok.mp h
      exact ⟨rfl, rfl⟩
    · obtain ⟨s, rfl, hs, rfl⟩ := decodeReadStatus_eq_ok.mp h
      exact ⟨rfl, hs⟩
    · obtain ⟨id, s, rfl, hid, hs, rfl⟩ := decodeReadChannel_eq_ok.mp h
      exact ⟨rfl, Bool.and_eq_true_iff.mpr ⟨hid, hs⟩⟩
    · obtain ⟨rfl, rfl⟩ := decodeBare_eq_ok.mp h
      exact ⟨rfl, rfl⟩
    · obtain ⟨b, rfl, rfl⟩ := decodeOne_eq_ok.mp h
      exact ⟨rfl, rfl⟩
    · rw [decodeRecord_unknownOpcode hop] at h
      exact nomatch h

end Sys2Proof
end

/-! # Wire frames -/

section
namespace Sys2Proof

open Machine

variable {p : Params} {f : List Byte}

/-! ## Slices -/

theorem slice_whole (h : f ≠ []) : slice f 0 (f.length - 1) = f := by
  have := List.length_pos_iff.mpr h
  rw [slice, List.drop_zero, List.take_of_length_le (by omega)]

/-- A slice is its first byte and the rest. -/
theorem slice_cons {i j : Nat} (hij : i ≤ j) (hj : j < f.length) :
    slice f i j = f.getD i 0x00#8 :: slice f (i + 1) j := by
  have hi : i < (f.take (j + 1)).length := by rw [List.length_take]; omega
  rw [slice, List.drop_eq_getElem_cons hi, List.getElem_take, List.getD_eq_getElem f _ (by omega), slice]

/-- A slice is all but its last byte, and that byte. -/
theorem slice_snoc {i j : Nat} (hij : i ≤ j + 1) (hj : j + 1 < f.length) :
    slice f i (j + 1) = slice f i j ++ [f.getD (j + 1) 0x00#8] := by
  have hi : i ≤ (f.take (j + 1)).length := by rw [List.length_take]; omega
  rw [slice, List.take_succ_eq_append_getElem hj, List.drop_append_of_le_length hi,
    List.getD_eq_getElem f _ hj, slice]

/-- With ETX in its place, the region the block check covers is the body of the packet read by position (R107, R157). -/
theorem slice_eq_frameBody {n : Nat} (hlen : n + 4 ≤ f.length) (hetx : f.getD (f.length - 2) 0x00#8 = p.ccEtx) :
    slice f n (f.length - 2) = frameBody p (frameFields f n) := by
  obtain ⟨k, hk⟩ : ∃ k, f.length = k + 3 := ⟨f.length - 3, by omega⟩
  have hpayload : frameFields f n = ⟨f.getD n 0x00#8, f.getD (n + 1) 0x00#8, slice f (n + 2) k⟩ := by
    rw [frameFields, hk, Nat.add_sub_cancel]
  rw [hk, show k + 3 - 2 = k + 1 by omega] at hetx ⊢
  rw [slice_snoc (by omega) (by omega), hetx, slice_cons (by omega) (by omega), slice_cons (by omega) (by omega),
    hpayload]
  rfl

/-- With ETX and the block check in their places, what follows the header is the packet's body and its check. -/
theorem slice_eq_frameBody_bcc {n : Nat} (hlen : n + 4 ≤ f.length)
    (hetx : f.getD (f.length - 2) 0x00#8 = p.ccEtx)
    (hbcc : bcc (slice f n (f.length - 2)) = f.getD (f.length - 1) 0x00#8) :
    slice f n (f.length - 1) = frameBody p (frameFields f n) ++ [bcc (frameBody p (frameFields f n))] := by
  have hsnoc := slice_snoc (f := f) (i := n) (j := f.length - 2) (by omega) (by omega)
  rw [show f.length - 2 + 1 = f.length - 1 by omega, ← hbcc, slice_eq_frameBody hlen hetx] at hsnoc
  exact hsnoc

/-! ## What an accepted frame is -/

/-- The verdict is no frame, or the bytes are the encoding of the frame it names. -/
def IsSpelling (p : Params) (f : List Byte) : FrameKind × Packet → Prop
  | (.ack, _) => f = encodeFrame p .ack
  | (.nack, _) => f = encodeFrame p .nack
  | (.eot, _) => f = encodeFrame p .eot
  | (.poll, q) => f = encodeFrame p (.poll q.address)
  | (.select, q) => f = encodeFrame p (.select q)
  | (.respond, q) => f = encodeFrame p (.respond q)
  | (.error, _) => True
  | (.none, _) => True

theorem eq_singleton_of_getD {c : Byte} (hlen : f.length = 1) (hfirst : f.getD 0 0x00#8 = c) : f = [c] := by
  obtain ⟨b, rfl⟩ := List.length_eq_one_iff.mp hlen
  rw [← hfirst]
  rfl

theorem decodeEotArm_isSpelling (hfirst : f.getD 0 0x00#8 = p.ccEot) : IsSpelling p f (decodeEotArm p f) := by
  unfold decodeEotArm
  dsimp only
  split
  next hlen => exact eq_singleton_of_getD hlen hfirst
  split
  next hpoll =>
    obtain ⟨hlen, hcode⟩ := hpoll
    obtain ⟨x, a, y, rfl⟩ := List.length_eq_three.mp hlen
    obtain rfl : x = p.ccEot := hfirst
    obtain rfl : y = p.ccPoll := hcode
    rfl
  split
  next hshape =>
    obtain ⟨-, hstx, hetx⟩ := hshape
    split
    · trivial
    split
    next hlen hbcc =>
      have hne : f ≠ [] := List.ne_nil_of_length_pos (by omega)
      show f = p.ccEot :: ccStx :: (frameBody p (frameFields f 2) ++ [bcc (frameBody p (frameFields f 2))])
      rw [← slice_eq_frameBody_bcc (by omega) hetx hbcc, ← hfirst, ← hstx, ← slice_cons (by omega) (by omega),
        ← slice_cons (by omega) (by omega), slice_whole hne]
    · trivial
  · trivial

theorem decodeStxArm_isSpelling (hfirst : f.getD 0 0x00#8 = ccStx) : IsSpelling p f (decodeStxArm p f) := by
  unfold decodeStxArm
  dsimp only
  split
  next hshape =>
    obtain ⟨-, hetx⟩ := hshape
    split
    · trivial
    split
    next hlen hbcc =>
      have hne : f ≠ [] := List.ne_nil_of_length_pos (by omega)
      show f = ccStx :: (frameBody p (frameFields f 1) ++ [bcc (frameBody p (frameFields f 1))])
      rw [← slice_eq_frameBody_bcc (by omega) hetx hbcc, ← hfirst, ← slice_cons (by omega) (by omega), slice_whole hne]
    · trivial
  · trivial

/-- No bit of an accepted frame is ignored, whether or not the control codes are different. -/
theorem decodeFrame_isSpelling (p : Params) (f : List Byte) : IsSpelling p f (decodeFrame p f) := by
  unfold decodeFrame
  dsimp only
  split
  next hack =>
    split
    next hlen => exact eq_singleton_of_getD hlen hack
    · trivial
  split
  next hnack =>
    split
    next hlen => exact eq_singleton_of_getD hlen hnack
    · trivial
  split
  next heot => exact decodeEotArm_isSpelling heot
  split
  next hstx => exact decodeStxArm_isSpelling hstx
  · trivial

theorem encode_of_decodeWire {i : Instr} (h : decodeWire p f = .ok i) :
    encode p i = .frame f ∧ i.wellFormed = true := by
  have hspelling := decodeFrame_isSpelling p f
  have hpayload := payloadOk_decodeFrame p f
  unfold decodeWire at h
  generalize decodeFrame p f = verdict at h hspelling hpayload
  obtain ⟨kind, q⟩ := verdict
  cases kind <;> cases h
  case select => exact ⟨congrArg Strobe.frame (Eq.symm hspelling), hpayload⟩
  case respond => exact ⟨congrArg Strobe.frame (Eq.symm hspelling), hpayload⟩
  all_goals exact ⟨congrArg Strobe.frame (Eq.symm hspelling), rfl⟩

/-! ## Frames read back (40_codec.md R160) -/

theorem decodeFrame_encodeFrame_ack : decodeFrame p (encodeFrame p .ack) = (.ack, emptyPacket 0x00#8) := by
  simp [decodeFrame, encodeFrame]

theorem decodeFrame_encodeFrame_nack (h : p.CodesDistinct) :
    decodeFrame p (encodeFrame p .nack) = (.nack, emptyPacket 0x00#8) := by
  simp [decodeFrame, encodeFrame, h.1.symm]

theorem decodeFrame_encodeFrame_eot (h : p.CodesDistinct) :
    decodeFrame p (encodeFrame p .eot) = (.eot, emptyPacket 0x00#8) := by
  obtain ⟨-, hae, -, hne, -⟩ := h
  simp [decodeFrame, decodeEotArm, encodeFrame, hae.symm, hne.symm]

theorem decodeFrame_encodeFrame_poll (h : p.CodesDistinct) (a : Byte) :
    decodeFrame p (encodeFrame p (.poll a)) = (.poll, emptyPacket a) := by
  obtain ⟨-, hae, -, hne, -⟩ := h
  simp [decodeFrame, decodeEotArm, encodeFrame, hae.symm, hne.symm]

theorem decodeFrame_encodeFrame_select (h : p.CodesDistinct) (q : Packet) (hq : q.payload.length ≤ 50) :
    decodeFrame p (encodeFrame p (.select q)) = (.select, q) := by
  have hframe : encodeFrame p (.select q) =
      p.ccEot :: ccStx :: q.address :: q.opcode :: (q.payload ++ [p.ccEtx, bcc (frameBody p q)]) := by
    simp [encodeFrame, frameBody]
  rw [hframe, decodeFrame_selectShape p h _ _ _ _ _ hq, if_pos rfl, if_pos (by rfl)]

theorem decodeFrame_encodeFrame_respond (h : p.CodesDistinct) (q : Packet) (hq : q.payload.length ≤ 50) :
    decodeFrame p (encodeFrame p (.respond q)) = (.respond, q) := by
  have hframe : encodeFrame p (.respond q) =
      ccStx :: q.address :: q.opcode :: (q.payload ++ [p.ccEtx, bcc (frameBody p q)]) := by
    simp [encodeFrame, frameBody]
  rw [hframe, decodeFrame_respondShape p h _ _ _ _ _ hq, if_pos ⟨rfl, rfl⟩]

theorem framePayloadOk_iff {payload : List Byte} : framePayloadOk payload = true ↔ payload.length ≤ 50 :=
  decide_eq_true_iff

theorem decodeWire_of_encode {i : Instr} (h : p.CodesDistinct) (henc : encode p i = .frame f)
    (hwf : i.wellFormed = true) : decodeWire p f = .ok i := by
  cases i <;> cases henc
  case ack => rw [decodeWire, decodeFrame_encodeFrame_ack]
  case nack => rw [decodeWire, decodeFrame_encodeFrame_nack h]
  case eot => rw [decodeWire, decodeFrame_encodeFrame_eot h]
  case poll a => rw [decodeWire, decodeFrame_encodeFrame_poll h]; rfl
  case select a o payload =>
    rw [decodeWire, decodeFrame_encodeFrame_select h ⟨a, o, payload⟩ (framePayloadOk_iff.mp hwf)]
  case respond a o payload =>
    rw [decodeWire, decodeFrame_encodeFrame_respond h ⟨a, o, payload⟩ (framePayloadOk_iff.mp hwf)]

end Sys2Proof
end

/-! # The statements -/

section
namespace Sys2Proof.Machine

/-- Settles O1: a record and a frame are each read back. -/
theorem decodeOfEncodeIsTheInstruction : Obligations.DecodeOfEncodeIsTheInstruction := by
  intro p i hcodes hwf
  cases henc : encode p i with
  | record bytes => exact decodeRecord_of_encode henc hwf
  | frame bytes => exact decodeWire_of_encode hcodes henc hwf

/-- Settles O2: an accepted record and an accepted frame are each the encoding of what they decode to. -/
theorem acceptedInputHasOneSpelling : Obligations.AcceptedInputHasOneSpelling := by
  intro p x i h
  cases x with
  | record bytes => exact encode_of_decodeRecord h
  | frame bytes => exact encode_of_decodeWire h

/-- Settles O6: each input, evaluated. -/
theorem writtenOutInputsDecode : Obligations.WrittenOutInputsDecode :=
  ⟨rfl, rfl, rfl, rfl, rfl, rfl, rfl, rfl, rfl, rfl⟩

end Sys2Proof.Machine
end

/-! # Illegal records -/

section
namespace Sys2Proof.Machine

/-- An encoding of a legal instruction meets no clause of R116. -/
theorem not_illegalRecord_of_encode {p : Params} {i : Instr} {f : List Byte} (henc : encode p i = .record f)
    (hwf : i.wellFormed = true) : ¬ IllegalRecord f := by
  cases i <;> cases henc
  case init r a => cases r <;> simp [requiredLength, Role.code]
  case createChannel a pa sa oc ic =>
    have ⟨hreserved, _⟩ := flagsByte_eq_iff.mp (rfl : flagsByte pa sa = flagsByte pa sa)
    simp [requiredLength, hreserved]
  case send id o payload =>
    have hlen : payload.length ≤ 255 := of_decide_eq_true hwf
    simp [requiredLength, Nat.mod_eq_of_lt (show payload.length < 256 by omega), Nat.add_comm 4]
  case readStatus s =>
    have hs : s.toNat ≤ 9 := of_decide_eq_true hwf
    simp [requiredLength, hs]
  case readChannel id s =>
    obtain ⟨hslot, hselector⟩ := Bool.and_eq_true_iff.mp hwf
    have hid : id.toNat ≤ 31 := Nat.le_of_lt_succ (of_decide_eq_true hslot)
    have hs : s.toNat ≤ 3 := of_decide_eq_true hselector
    simp [requiredLength, hid, hs]
  all_goals simp [requiredLength]

/-- A record that meets no clause of R116 decodes: its length gives it the operands of its opcode, and each operand is
in its range. -/
theorem exists_decodeRecord_of_not_illegalRecord {f : List Byte} (h : ¬ IllegalRecord f) :
    ∃ i, decodeRecord f = .ok i := by
  cases f with
  | nil => exact absurd (.inl rfl) h
  | cons op rest =>
    obtain rfl | rfl | rfl | rfl | rfl | rfl | rfl | rfl | rfl | rfl | rfl | hop := opcode_cases op
    · obtain ⟨hlen, hrole⟩ : rest.length = 2 ∧ (rest.getD 0 0x00#8).toNat ≤ 1 := by simpa [requiredLength] using h
      obtain ⟨r, a, rfl⟩ := List.length_eq_two.mp hlen
      obtain ⟨role, rfl⟩ := Role.exists_code_eq hrole
      exact ⟨_, decodeInit_eq_ok.mpr ⟨role, a, rfl, rfl⟩⟩
    · obtain ⟨hlen, hreserved⟩ : rest.length = 4 ∧ (rest.getD 1 0x00#8).extractLsb' 2 6 = 0#6 := by
        simpa [requiredLength] using h
      obtain ⟨a, f, oc, ic, rfl⟩ := List.length_eq_four.mp hlen
      exact ⟨.createChannel a (f.getLsbD 0) (f.getLsbD 1) oc ic, if_pos hreserved⟩
    · obtain rfl : rest = [] := by simpa [requiredLength] using h
      exact ⟨.start, rfl⟩
    · have hlen : rest.length + 1 = 4 + (rest.getD 2 0x00#8).toNat := by simpa [requiredLength] using h
      obtain ⟨id, o, n, payload, rfl⟩ : ∃ id o n payload, rest = id :: o :: n :: payload := by
        match rest, hlen with
        | id :: o :: n :: payload, _ => exact ⟨id, o, n, payload, rfl⟩
      have hpayload : payload.length = n.toNat := by simpa [Nat.add_comm 4] using hlen
      exact ⟨.send id o payload, if_pos hpayload⟩
    · exact exists_decodeOne_eq_ok (by simpa [requiredLength] using h)
    · exact exists_decodeOne_eq_ok (by simpa [requiredLength] using h)
    · exact exists_decodeOne_eq_ok (by simpa [requiredLength] using h)
    · obtain ⟨hlen, hs⟩ : rest.length = 1 ∧ (rest.getD 0 0x00#8).toNat ≤ 9 := by simpa [requiredLength] using h
      obtain ⟨s, rfl⟩ := List.length_eq_one_iff.mp hlen
      exact ⟨_, decodeReadStatus_eq_ok.mpr ⟨s, rfl, decide_eq_true hs, rfl⟩⟩
    · obtain ⟨hlen, hid, hs⟩ : rest.length = 2 ∧ (rest.getD 0 0x00#8).toNat ≤ 31 ∧
          (rest.getD 1 0x00#8).toNat ≤ 3 := by simpa [requiredLength] using h
      obtain ⟨id, s, rfl⟩ := List.length_eq_two.mp hlen
      exact ⟨_, decodeReadChannel_eq_ok.mpr
        ⟨id, s, rfl, decide_eq_true (Nat.lt_succ_of_le hid), decide_eq_true hs, rfl⟩⟩
    · obtain rfl : rest = [] := by simpa [requiredLength] using h
      exact ⟨.tick, rfl⟩
    · exact exists_decodeOne_eq_ok (by simpa [requiredLength] using h)
    · exact absurd (hop.imp_right .inl) h

/-- A record that meets a clause of R116 does not decode, since what decodes is an encoding. -/
theorem exists_decodeRecord_error_of_illegalRecord {f : List Byte} (h : IllegalRecord f) :
    ∃ e, decodeRecord f = .error e := by
  cases hdecode : decodeRecord f with
  | error e => exact ⟨e, rfl⟩
  | ok i =>
    obtain ⟨henc, hwf⟩ := encode_of_decodeRecord (p := Params.vector) hdecode
    exact absurd h (not_illegalRecord_of_encode henc hwf)

/-- A record that does not decode is answered 0xEE and taken off the inputs. -/
theorem step_of_decodeRecord_error {s : State} {f : List Byte} {rest : List Strobe} {e : DecodeError}
    (hinput : s.input = .record f :: rest) (h : decodeRecord f = .error e) :
    step s = .next { s with input := rest, reply := [0xEE#8] } := by
  have hdecode : decodeStrobe s.params (.record f) = .error e := h
  simp only [step, State.takeNext, hinput, State.take, hdecode]
  rfl

/-- Settles O7: a record that does not decode is answered, one that does is run. -/
theorem illegalRecordIsAnsweredAndChangesNothing : Obligations.IllegalRecordIsAnsweredAndChangesNothing := by
  intro s f rest hinput
  constructor
  · intro hillegal
    obtain ⟨e, herror⟩ := exists_decodeRecord_error_of_illegalRecord hillegal
    exact step_of_decodeRecord_error hinput herror
  · intro hlegal
    obtain ⟨i, hok⟩ := exists_decodeRecord_of_not_illegalRecord hlegal
    exact ⟨i, hok, stepRunsTheDecodedInstruction s _ rest i hinput hok⟩

end Sys2Proof.Machine
end

/-! # Wire frames as instructions -/

section
namespace Sys2Proof.Machine

/-- The bytes of R101 to R106 are the encoding of a frame, and its instruction delivers that frame. -/
theorem exists_frame_of_wireBytes {p : Params} {i : Instr} {bytes : List Byte} (h : wireBytes p i = some bytes) :
    ∃ fr, encodeFrame p fr = bytes ∧ ∀ s, exec i s = .next (s.deliver fr) := by
  cases i <;> cases h
  case ack => exact ⟨.ack, rfl, fun _ => rfl⟩
  case nack => exact ⟨.nack, rfl, fun _ => rfl⟩
  case eot => exact ⟨.eot, rfl, fun _ => rfl⟩
  case poll a => exact ⟨.poll a, rfl, fun _ => rfl⟩
  case select a o payload =>
    exact ⟨.select ⟨a, o, payload⟩, by simp [encodeFrame, frameBody, selectBytes, bcc, ccStx], fun _ => rfl⟩
  case respond a o payload =>
    exact ⟨.respond ⟨a, o, payload⟩, by simp [encodeFrame, frameBody, respondBytes, bcc, ccStx], fun _ => rfl⟩

/-- Every frame has at least one byte. -/
theorem encodeFrame_ne_nil (p : Params) (fr : Frame) : encodeFrame p fr ≠ [] := by
  cases fr <;> exact List.cons_ne_nil _ _

/-- Settles O23: the instruction delivers its frame, and `State.receiveBytes_spec` says what a delivery leaves. -/
theorem wireFrameDeliversItsBytes : Obligations.WireFrameDeliversItsBytes := by
  intro s i bytes hbytes hwf hcount
  obtain ⟨fr, rfl, hexec⟩ := exists_frame_of_wireBytes hbytes
  obtain ⟨buf, hdeliver, -, hread⟩ :=
    (s.withReply []).receiveBytes_spec (encodeFrame s.params fr) hwf hcount (encodeFrame_ne_nil _ fr)
  exact ⟨buf, (hexec s).trans (congrArg Host.Outcome.next hdeliver), hread⟩

end Sys2Proof.Machine
end

/-! Proofs of the statements about the packet codec (spec/40_codec.md): the block check does not depend on the order of
the bytes and sees every replaced byte, every frame is read back, and a frame with one replaced byte is not. -/

/-! # The block check (40_codec.md R140) -/

section
namespace Sys2Proof

theorem xorFold_singleton (b : Byte) : xorFold [b] = b := BitVec.xor_zero

theorem xorFold_eq_foldr (s : List Byte) : xorFold s = s.foldr (· ^^^ ·) 0x00#8 := by
  induction s with
  | nil => rfl
  | cons b bs ih => rw [xorFold, ih, List.foldr_cons]

/-- The order of the bytes does not matter. -/
theorem xorFold_perm {s u : List Byte} (h : s.Perm u) : xorFold s = xorFold u := by
  rw [xorFold_eq_foldr, xorFold_eq_foldr, h.foldr_eq]

/-- One replaced byte is seen. -/
theorem xorFold_set_eq_iff {s : List Byte} {j : Nat} {b : Byte} (hj : j < s.length) :
    xorFold (s.set j b) = xorFold s ↔ b = s.getD j 0x00#8 := by
  induction s generalizing j with
  | nil => exact absurd hj (Nat.not_lt_zero j)
  | cons x xs ih =>
    cases j with
    | zero => exact BitVec.xor_left_inj _
    | succ j => exact (BitVec.xor_right_inj _).trans (ih (Nat.lt_of_succ_lt_succ hj))

end Sys2Proof

namespace Sys2Proof.Machine

/-- Settles O5: an XOR is a fold from either end, so it follows permutations, and it sees a replaced byte. -/
theorem checksumIsAnOrderFreeXor : Obligations.ChecksumIsAnOrderFreeXor := by
  refine ⟨?fold, ?perm, ?cancel, ?replaced, by decide⟩
  case fold => exact fun s => (xorFold_eq_foldr s).trans List.foldl_eq_foldr.symm
  case perm => exact fun s u h => xorFold_perm h
  case cancel =>
    intro s b
    show b ^^^ (b ^^^ xorFold s) = xorFold s
    rw [← BitVec.xor_assoc, BitVec.xor_self, BitVec.zero_xor]
  case replaced => exact fun s j b hj hb => mt (xorFold_set_eq_iff hj).mp hb

/-- Settles O3: each kind is read back. -/
theorem codecRoundTrip : Obligations.CodecRoundTrip := by
  intro p q hcodes hq
  exact ⟨decodeFrame_encodeFrame_select hcodes q hq, decodeFrame_encodeFrame_respond hcodes q hq,
    decodeFrame_encodeFrame_poll hcodes q.address, decodeFrame_encodeFrame_ack,
    decodeFrame_encodeFrame_nack hcodes, decodeFrame_encodeFrame_eot hcodes⟩

end Sys2Proof.Machine
end

/-! # Damaged frames (40_codec.md R161)

A stored check agrees with the bytes it covers exactly where the XOR of those bytes and of the check itself is zero. So
one replaced byte among them, the check included, is a fold that is no longer zero. -/

section
namespace Sys2Proof

open Machine

variable {p : Params} {f : List Byte} {q : Packet} {j : Nat} {b : Byte}

/-! ## What the decoder answers -/

/-- The block check of a frame whose covered bytes begin at index `n` holds where those bytes and the check fold to
zero. -/
theorem bcc_slice_eq_iff {n : Nat} (hn : n + 2 ≤ f.length) :
    bcc (slice f n (f.length - 2)) = f.getD (f.length - 1) 0x00#8 ↔ xorFold (f.drop n) = 0x00#8 := by
  have hsnoc := slice_snoc (f := f) (i := n) (j := f.length - 2) (by omega) (by omega)
  rw [show f.length - 2 + 1 = f.length - 1 by omega] at hsnoc
  have hdrop : f.drop n = slice f n (f.length - 2) ++ [f.getD (f.length - 1) 0x00#8] := by
    rw [← hsnoc, slice, List.take_of_length_le (by omega)]
  rw [hdrop, xorFold_append, xorFold_singleton, bcc, BitVec.xor_eq_zero_iff]

theorem frameFields_two_eq (f : List Byte) : frameFields f 2 = packetByPosition f := by
  rw [frameFields, packetByPosition, slice, List.drop_take, show f.length - 3 + 1 - (2 + 2) = f.length - 6 by omega]

/-- STX and ETX stand in the places of a SELECT frame, and the length has room for a packet (R154). -/
abbrev SelectShape (p : Params) (f : List Byte) : Prop :=
  6 ≤ f.length ∧ f.length ≤ 56 ∧ f.getD 1 0x00#8 = ccStx ∧ f.getD (f.length - 2) 0x00#8 = p.ccEtx

/-- What a frame of more than 3 bytes that begins with EOT decodes to (R154). -/
theorem decodeFrame_of_eot (h : p.CodesDistinct) (hfirst : f.getD 0 0x00#8 = p.ccEot) (hlen : 3 < f.length) :
    decodeFrame p f =
      if SelectShape p f then (if xorFold (f.drop 2) = 0x00#8 then .select else .error, packetByPosition f)
      else (.none, emptyPacket 0x00#8) := by
  obtain ⟨-, hae, -, hne, -⟩ := h
  have harm : decodeFrame p f = decodeEotArm p f := by
    simp only [decodeFrame, hfirst, hae.symm, hne.symm, if_false, if_true]
  rw [harm, decodeEotArm, if_neg (by omega), if_neg (by omega)]
  by_cases hshape : SelectShape p f
  · have ⟨hmin, hmax, hmarks⟩ := hshape
    rw [if_pos ⟨hlen, hmarks⟩, if_neg (by omega), if_pos hshape, frameFields_two_eq]
    simp only [bcc_slice_eq_iff (show 2 + 2 ≤ f.length by omega)]
    split <;> rfl
  · rw [if_neg hshape]
    split
    next hmarks =>
      have hlength : f.length < 6 ∨ 56 < f.length := by
        by_contra hroom
        exact hshape ⟨by omega, by omega, hmarks.2⟩
      rw [if_pos hlength]
    next => rfl

/-- Only a frame of more than 3 bytes that begins with EOT is an ERROR (R150). -/
theorem eot_of_decodeFrame_error (h : (decodeFrame p f).1 = .error) :
    f.getD 0 0x00#8 = p.ccEot ∧ 3 < f.length := by
  unfold decodeFrame at h
  dsimp only at h
  split at h
  · split at h <;> cases h
  split at h
  · split at h <;> cases h
  split at h
  next hfirst =>
    unfold decodeEotArm at h
    dsimp only at h
    split at h
    · cases h
    split at h
    · cases h
    split at h
    next hmarks => exact ⟨hfirst, hmarks.1⟩
    · cases h
  split at h
  · unfold decodeStxArm at h
    dsimp only at h
    split at h
    · split at h
      · cases h
      split at h <;> cases h
    · cases h
  · cases h

/-- The statement's damaged frame, with its check as a fold. -/
theorem damagedSelect_iff :
    DamagedSelect p f ↔ f.getD 0 0x00#8 = p.ccEot ∧ SelectShape p f ∧ xorFold (f.drop 2) ≠ 0x00#8 := by
  have hcheck (hmin : 6 ≤ f.length) :
      xorFold ((f.drop 2).take (f.length - 3)) = f.getD (f.length - 1) 0x00#8 ↔ xorFold (f.drop 2) = 0x00#8 := by
    rw [← bcc_slice_eq_iff (show 2 + 2 ≤ f.length by omega), bcc, slice, List.drop_take,
      show f.length - 2 + 1 - 2 = f.length - 3 by omega]
  constructor
  · rintro ⟨hmin, hmax, hfirst, hstx, hetx, hbad⟩
    exact ⟨hfirst, ⟨hmin, hmax, hstx, hetx⟩, mt (hcheck hmin).mpr hbad⟩
  · rintro ⟨hfirst, ⟨hmin, hmax, hstx, hetx⟩, hbad⟩
    exact ⟨hmin, hmax, hfirst, hstx, hetx, mt (hcheck hmin).mp hbad⟩

theorem decodeFrame_of_damagedSelect (h : p.CodesDistinct) (hf : DamagedSelect p f) :
    decodeFrame p f = (.error, packetByPosition f) := by
  obtain ⟨hfirst, hshape, hbad⟩ := damagedSelect_iff.mp hf
  have hlen : 3 < f.length := by have := hshape.1; omega
  rw [decodeFrame_of_eot h hfirst hlen, if_pos hshape, if_neg hbad]

theorem decodeFrame_error_iff (h : p.CodesDistinct) : (decodeFrame p f).1 = .error ↔ DamagedSelect p f := by
  constructor
  · intro herror
    obtain ⟨hfirst, hlen⟩ := eot_of_decodeFrame_error herror
    rw [decodeFrame_of_eot h hfirst hlen] at herror
    split at herror
    next hshape =>
      split at herror
      · cases herror
      next hbad => exact damagedSelect_iff.mpr ⟨hfirst, hshape, hbad⟩
    · cases herror
  · intro hf
    rw [decodeFrame_of_damagedSelect h hf]

/-- A frame that begins with EOT and has not the shape of a SELECT is NONE. -/
theorem decodeFrame_none_of_not_selectShape (h : p.CodesDistinct) (hfirst : f.getD 0 0x00#8 = p.ccEot)
    (hlen : 3 < f.length) (hshape : ¬ SelectShape p f) : (decodeFrame p f).1 = .none := by
  rw [decodeFrame_of_eot h hfirst hlen, if_neg hshape]

/-- The body of a packet and its block check fold to zero. -/
theorem xorFold_frameBody_bcc (p : Params) (q : Packet) : xorFold (frameBody p q ++ [bcc (frameBody p q)]) = 0x00#8 := by
  rw [xorFold_append, xorFold_singleton, bcc, BitVec.xor_self]

/-- A longer frame that does not begin with EOT is NONE where the bytes after its first do not fold to zero: of the
verdicts with a frame, ACK and NACK have one byte, EOT, POLL, SELECT and ERROR begin with EOT, and RESPOND's check
covers all but its first byte. -/
theorem decodeFrame_none_of_xorFold (hfirst : f.getD 0 0x00#8 ≠ p.ccEot) (hlen : 1 < f.length)
    (hfold : xorFold (f.drop 1) ≠ 0x00#8) : (decodeFrame p f).1 = .none := by
  have hspelling := decodeFrame_isSpelling p f
  have herror := eot_of_decodeFrame_error (p := p) (f := f)
  generalize decodeFrame p f = verdict at hspelling herror ⊢
  obtain ⟨kind, r⟩ := verdict
  cases kind with
  | none => rfl
  | ack | nack =>
    obtain rfl := hspelling
    exact absurd hlen (Nat.lt_irrefl 1)
  | eot | poll | select =>
    obtain rfl := hspelling
    exact absurd rfl hfirst
  | respond =>
    obtain rfl := hspelling
    exact absurd (xorFold_frameBody_bcc p r) hfold
  | error => exact absurd (herror rfl).1 hfirst

/-! ## The bytes of a frame -/

theorem selectBytes_eq (p : Params) (q : Packet) :
    selectBytes p q = p.ccEot :: ccStx :: (frameBody p q ++ [bcc (frameBody p q)]) := by
  simp [selectBytes, frameBody, bcc, ccStx]

theorem respondBytes_eq (p : Params) (q : Packet) :
    respondBytes p q = ccStx :: (frameBody p q ++ [bcc (frameBody p q)]) := by
  simp [respondBytes, frameBody, bcc, ccStx]

theorem length_selectBytes (p : Params) (q : Packet) : (selectBytes p q).length = q.payload.length + 6 := by
  simp [selectBytes]

theorem length_respondBytes (p : Params) (q : Packet) : (respondBytes p q).length = q.payload.length + 5 := by
  simp [respondBytes]

/-- The check and the bytes it covers, in a SELECT frame. -/
theorem xorFold_selectBytes_drop (p : Params) (q : Packet) : xorFold ((selectBytes p q).drop 2) = 0x00#8 := by
  rw [selectBytes_eq]
  exact xorFold_frameBody_bcc p q

/-- The check and the bytes it covers, in a RESPOND frame. -/
theorem xorFold_respondBytes_drop (p : Params) (q : Packet) : xorFold ((respondBytes p q).drop 1) = 0x00#8 := by
  rw [respondBytes_eq]
  exact xorFold_frameBody_bcc p q

theorem selectShape_selectBytes (hq : q.payload.length ≤ 50) : SelectShape p (selectBytes p q) := by
  have hetx : (selectBytes p q).getD (q.payload.length + 4) 0x00#8 = p.ccEtx := by simp [selectBytes]
  rw [SelectShape, length_selectBytes]
  exact ⟨by omega, by omega, rfl, hetx⟩

/-! ## One replaced byte -/

theorem getD_set_ne {i : Nat} (h : j ≠ i) : (f.set j b).getD i 0x00#8 = f.getD i 0x00#8 := by
  simp only [List.getD_eq_getElem?_getD, List.getElem?_set_ne h]

theorem getD_set_self (h : j < f.length) : (f.set j b).getD j 0x00#8 = b := by
  simp [List.getD_eq_getElem?_getD, h]

/-- A byte replaced in bytes that fold to zero leaves bytes that do not. -/
theorem xorFold_drop_set_ne_zero {n : Nat} (hzero : xorFold (f.drop n) = 0x00#8) (hn : n ≤ j) (hj : j < f.length)
    (hb : b ≠ f.getD j 0x00#8) : xorFold ((f.set j b).drop n) ≠ 0x00#8 := by
  have hget : (f.drop n).getD (j - n) 0x00#8 = f.getD j 0x00#8 := by
    simp only [List.getD_eq_getElem?_getD, List.getElem?_drop, Nat.add_sub_cancel' hn]
  rw [List.drop_set, if_neg (by omega), ← hzero]
  exact mt (xorFold_set_eq_iff (by rw [List.length_drop]; omega)).mp (hget ▸ hb)

/-- A byte from the address to the check, ETX left as it is, makes a damaged SELECT. -/
theorem damagedSelect_set (hq : q.payload.length ≤ 50) (hmin : 2 ≤ j) (hj : j < q.payload.length + 6)
    (hne : j ≠ q.payload.length + 4) (hb : b ≠ (selectBytes p q).getD j 0x00#8) :
    DamagedSelect p ((selectBytes p q).set j b) := by
  have hlen := length_selectBytes p q
  obtain ⟨hlo, hhi, hstx, hetx⟩ := selectShape_selectBytes (p := p) hq
  have hfold := xorFold_drop_set_ne_zero (xorFold_selectBytes_drop p q) hmin (by omega) hb
  refine damagedSelect_iff.mpr ⟨getD_set_ne (by omega), ?shape, hfold⟩
  rw [SelectShape, List.length_set]
  exact ⟨hlo, hhi, (getD_set_ne (by omega)).trans hstx, (getD_set_ne (by omega)).trans hetx⟩

/-- The check is no part of the packet. -/
theorem packetByPosition_set_check (p : Params) (q : Packet) (b : Byte) :
    packetByPosition ((selectBytes p q).set (q.payload.length + 5) b) = q := by
  have hset : (selectBytes p q).set (q.payload.length + 5) b =
      p.ccEot :: ccStx :: q.address :: q.opcode :: (q.payload ++ [p.ccEtx, b]) := by
    simp [selectBytes, ccStx]
  simp [hset, packetByPosition]

/-- With ETX replaced the marker is absent (90_conflicts.md C3). -/
theorem decodeFrame_select_set_etx (h : p.CodesDistinct) (hb : b ≠ p.ccEtx) :
    (decodeFrame p ((selectBytes p q).set (q.payload.length + 4) b)).1 = .none := by
  have hlen := length_selectBytes p q
  refine decodeFrame_none_of_not_selectShape h (getD_set_ne (by omega)) (by rw [List.length_set]; omega) ?shape
  rintro ⟨-, -, -, hetx⟩
  rw [List.length_set, hlen, show q.payload.length + 6 - 2 = q.payload.length + 4 by omega,
    getD_set_self (by omega)] at hetx
  exact hb hetx

/-- With STX replaced the other marker is absent. -/
theorem decodeFrame_select_set_stx (h : p.CodesDistinct) (hb : b ≠ ccStx) :
    (decodeFrame p ((selectBytes p q).set 1 b)).1 = .none := by
  have hlen := length_selectBytes p q
  refine decodeFrame_none_of_not_selectShape h (getD_set_ne (by omega)) (by rw [List.length_set]; omega) ?shape
  rintro ⟨-, -, hstx, -⟩
  rw [getD_set_self (by omega)] at hstx
  exact hb hstx

/-- With the leading EOT replaced, the SELECT's STX comes under the check of a RESPOND, which it fails by 0x02. -/
theorem decodeFrame_select_set_eot (hb : b ≠ p.ccEot) : (decodeFrame p ((selectBytes p q).set 0 b)).1 = .none := by
  have hlen := length_selectBytes p q
  refine decodeFrame_none_of_xorFold ?first (by rw [List.length_set]; omega) ?fold
  case first => rwa [getD_set_self (by omega)]
  case fold =>
    show ccStx ^^^ xorFold ((selectBytes p q).drop 2) ≠ 0x00#8
    rw [xorFold_selectBytes_drop]
    decide

/-- One byte after the leading STX of a RESPOND frame replaced, ETX included: the check fails. -/
theorem decodeFrame_respond_set (h : p.CodesDistinct) (hmin : 1 ≤ j) (hj : j < q.payload.length + 5)
    (hb : b ≠ (respondBytes p q).getD j 0x00#8) : (decodeFrame p ((respondBytes p q).set j b)).1 = .none := by
  obtain ⟨-, -, -, -, -, hes⟩ := h
  have hlen := length_respondBytes p q
  have hfold := xorFold_drop_set_ne_zero (xorFold_respondBytes_drop p q) hmin (by omega) hb
  refine decodeFrame_none_of_xorFold ?first (by rw [List.length_set]; omega) hfold
  case first =>
    rw [getD_set_ne (by omega)]
    exact hes.symm

end Sys2Proof

namespace Sys2Proof.Machine

/-- Settles O4: a replaced byte under the check makes a damaged SELECT, or a RESPOND whose check fails, a replaced
marker a frame of no shape; and ERROR is the verdict of the damaged SELECT frames alone. -/
theorem singleByteCorruptionIsDetected : Obligations.SingleByteCorruptionIsDetected := by
  refine ⟨fun p q j b hcodes hq => ⟨?covered, ?etx, ?check, ?stx, ?eot, ?respond⟩,
    fun p f hcodes => ⟨decodeFrame_error_iff hcodes, decodeFrame_of_damagedSelect hcodes, ?short⟩⟩
  case covered =>
    exact fun hmin hmax hb => decodeFrame_of_damagedSelect hcodes
      (damagedSelect_set hq hmin (by omega) (by omega) hb)
  case etx =>
    rintro rfl hb
    exact decodeFrame_select_set_etx hcodes hb
  case check =>
    rintro rfl hb
    rw [decodeFrame_of_damagedSelect hcodes (damagedSelect_set hq (by omega) (by omega) (by omega) hb),
      packetByPosition_set_check]
  case stx =>
    rintro rfl hb
    exact decodeFrame_select_set_stx hcodes hb
  case eot =>
    rintro rfl hb
    exact decodeFrame_select_set_eot hb
  case respond => exact fun hmin hmax hb => decodeFrame_respond_set hcodes hmin (by omega) hb
  case short =>
    intro hlen hfirst _
    exact decodeFrame_none_of_not_selectShape hcodes hfirst (by omega)
      fun hshape => absurd hshape.1 (by omega)

end Sys2Proof.Machine
end

/-! Proofs of the statements about the address validator (spec/41_address.md): what its three fields see of a changed
address, and the laws that follow. -/

/-! # The address validator -/

section
namespace Sys2Proof.Machine

/-! ## The mirror bit flipped (R176): it is in none of the compared fields but its own -/

@[simp] theorem deviceType_xor_mirror (a : Byte) : deviceType (a ^^^ 0x08#8) = deviceType a := by
  rw [deviceType, BitVec.extractLsb'_xor]
  exact BitVec.xor_zero

@[simp] theorem physicalAddress_xor_mirror (a : Byte) : physicalAddress (a ^^^ 0x08#8) = physicalAddress a := by
  rw [physicalAddress, BitVec.extractLsb'_xor]
  exact BitVec.xor_zero

@[simp] theorem mirrorBit_xor_mirror (a : Byte) : mirrorBit (a ^^^ 0x08#8) = !mirrorBit a := by
  rw [mirrorBit, BitVec.getLsbD_xor]
  exact Bool.xor_true _

/-! ## Bits [7:6] replaced (R174): the three fields lie in bits [5:0] -/

@[simp] theorem deviceType_append_low (top : BitVec 2) (a : Byte) :
    deviceType (top ++ a.extractLsb' 0 6) = deviceType a := by
  rw [deviceType, BitVec.extractLsb'_append_eq_of_add_le (by decide), BitVec.extractLsb'_extractLsb'_of_le (by decide)]
  rfl

@[simp] theorem physicalAddress_append_low (top : BitVec 2) (a : Byte) :
    physicalAddress (top ++ a.extractLsb' 0 6) = physicalAddress a := by
  rw [physicalAddress, BitVec.extractLsb'_append_eq_of_add_le (by decide),
    BitVec.extractLsb'_extractLsb'_of_le (by decide)]
  rfl

@[simp] theorem mirrorBit_append_low (top : BitVec 2) (a : Byte) :
    mirrorBit (top ++ a.extractLsb' 0 6) = mirrorBit a := by
  rw [mirrorBit, BitVec.getLsbD_append, BitVec.getLsbD_extractLsb']
  rfl

/-! ## The validator -/

theorem validate_comm (own peer : Byte) : validate own peer = validate peer own := by
  rw [validate, validate, BEq.comm (a := deviceType own), BEq.comm (a := physicalAddress own),
    BEq.comm (a := mirrorBit own)]

/-- Equal device types and physical addresses leave the mirror bits to tell apart. -/
theorem validate_of_fields_eq {own peer : Byte} (htype : deviceType peer = deviceType own)
    (hphys : physicalAddress peer = physicalAddress own) :
    validate own peer = ⟨true, true, mirrorBit own == mirrorBit peer⟩ := by
  rw [validate, htype, hphys, beq_self_eq_true, beq_self_eq_true]

theorem validate_self (a : Byte) : validate a a = ⟨true, true, true⟩ := by
  rw [validate_of_fields_eq rfl rfl, beq_self_eq_true]

theorem validate_xor_mirror (a : Byte) : validate a (a ^^^ 0x08#8) = ⟨true, true, false⟩ := by
  rw [validate_of_fields_eq (deviceType_xor_mirror a) (physicalAddress_xor_mirror a), mirrorBit_xor_mirror,
    Bool.beq_not_self]

theorem validate_append_low (own : Byte) (top : BitVec 2) :
    validate own (top ++ own.extractLsb' 0 6) = ⟨true, true, true⟩ := by
  rw [validate_of_fields_eq (deviceType_append_low top own) (physicalAddress_append_low top own),
    mirrorBit_append_low, beq_self_eq_true]

/-- Settles O55: the definitions are the comparisons themselves, and the laws follow from what each field sees. -/
theorem validatorLaws : Obligations.ValidatorLaws :=
  ⟨fun own peer => ⟨rfl, validate_comm own peer, rfl, rfl⟩, fun a => ⟨validate_self a, validate_xor_mirror a⟩,
    validate_append_low⟩

end Sys2Proof.Machine
end

/-! Proofs of the statements about the registry (spec/42_registry.md): the slots an instruction keeps, the slot the
round robin answers, and the ticks at which a timer is expired. -/

/-! # The slots (42_registry.md R181) -/

section
namespace Sys2Proof.Machine

/-- What R181 keeps of the channel of a slot: the address, the role flags and the capacities; and no lifecycle returns
to INIT (10_state.md R59). -/
abbrev Channel.Keeps (c d : Channel) : Prop :=
  d.address = c.address ∧ d.pollActive = c.pollActive ∧ d.selectActive = c.selectActive ∧
    d.outq.cap = c.outq.cap ∧ d.inq.cap = c.inq.cap ∧ (d.state = .init → c.state = .init)

/-- Every occupied slot stays occupied, and its channel is kept. -/
def State.KeepsSlots (s t : State) : Prop :=
  ∀ j c, s.channel j = some c → ∃ d, t.channel j = some d ∧ c.Keeps d

variable {s t : State}

theorem Channel.Advances.keeps {c d : Channel} (h : c.Advances d) : c.Keeps d :=
  ⟨h.address, h.pollActive, h.selectActive, h.outCap, h.inCap, h.lifecycle⟩

theorem State.KeepsSlots.of_same (h : ∀ j, t.channel j = s.channel j) : s.KeepsSlots t :=
  fun j c hc => ⟨c, (h j).trans hc, (Channel.Advances.refl c).keeps⟩

/-- A write to slot `k` keeps every slot where it keeps the channel that `k` holds, if it holds one. -/
theorem State.KeepsSlots.of_setChannel {k : Fin nCh} {e : Channel} (r : List Byte)
    (h : ∀ c, s.channel k = some c → c.Keeps e) : s.KeepsSlots ((s.setChannel k e).withReply r) := by
  intro j c hc
  rw [State.channel_withReply, State.channel_setChannel]
  split
  next hkj =>
    subst hkj
    exact ⟨e, rfl, h c hc⟩
  next => exact State.KeepsSlots.of_same (fun _ => rfl) j c hc

theorem State.KeepsSlots.of_slotsAdvance (h : s.SlotsAdvance t) : s.KeepsSlots t := by
  intro j c hc
  obtain ⟨d, hd, hadvance⟩ := h.at hc
  exact ⟨d, hd, hadvance.keeps⟩

/-! ## The instructions that write a slot -/

theorem State.deriveEvent_channels (s : State) : s.deriveEvent.1.channels = s.channels := by
  rcases s.deriveEvent_cases with ⟨-, h⟩ | ⟨-, -, h⟩ | ⟨-, -, -, h⟩ | ⟨-, -, -, h⟩ <;> rw [h]
  case inl => rcases s.handOff_cases with ⟨-, h⟩ | ⟨-, -, h⟩ | ⟨-, -, h⟩ <;> rw [h] <;> rfl
  case inr.inl => rfl
  case inr.inr.inl => rcases s.timeOut_cases with ⟨-, h⟩ | ⟨-, h⟩ <;> rw [h] <;> rfl

/-- Deriving the event touches no slot, and its dispatch advances at most one. -/
theorem State.tick_keepsSlots (s : State) : s.KeepsSlots s.tick := by
  rcases s.tick_cases with ⟨-, h⟩ | ⟨-, h⟩ <;> rw [h]
  · exact .of_same fun _ => rfl
  · intro j c hc
    have hc' := (State.channel_congr s.advanceTick.deriveEvent_channels j).trans hc
    exact State.KeepsSlots.of_slotsAdvance (State.dispatch_slotsAdvance _ _) j c hc'

/-- A new channel goes into a free slot (R180), so no occupied one is written. -/
theorem exec_createChannel_keepsSlots (s : State) (a : Byte) (pa sa : Bool) (oc ic : Byte) :
    ∃ t, exec (.createChannel a pa sa oc ic) s = .next t ∧ s.KeepsSlots t := by
  rcases exec_createChannel_cases s a pa sa oc ic with ⟨r, h⟩ | ⟨k, r, hfree, -, h⟩
  · exact ⟨_, h, .of_same fun _ => rfl⟩
  · exact ⟨_, h, .of_setChannel r fun c hc => nomatch hfree.symm.trans hc⟩

theorem exec_send_keepsSlots (s : State) (id o : Byte) (payload : List Byte) :
    ∃ t, exec (.send id o payload) s = .next t ∧ s.KeepsSlots t := by
  rcases exec_send_cases s id o payload with ⟨r, h⟩ | ⟨k, c, q, r, hc, -, hput, h⟩
  · exact ⟨_, h, .of_same fun _ => rfl⟩
  · refine ⟨_, h, .of_setChannel r fun c' hc' => ?_⟩
    obtain rfl := Option.some.inj (hc.symm.trans hc')
    obtain ⟨-, rfl⟩ := Queue.put_eq_some.mp hput
    exact ⟨rfl, rfl, rfl, rfl, rfl, fun h => h⟩

theorem exec_receive_keepsSlots (s : State) (id : Byte) :
    ∃ t, exec (.receive id) s = .next t ∧ s.KeepsSlots t := by
  rcases exec_receive_cases s id with ⟨r, h⟩ | ⟨k, c, p, q, r, hc, hget, h⟩
  · exact ⟨_, h, .of_same fun _ => rfl⟩
  · refine ⟨_, h, .of_setChannel r fun c' hc' => ?_⟩
    obtain rfl := Option.some.inj (hc.symm.trans hc')
    obtain ⟨-, hcap⟩ := Queue.get_eq_some.mp hget
    exact ⟨rfl, rfl, rfl, rfl, hcap, fun h => h⟩

/-! ## Every instruction -/

/-- Every instruction but INIT keeps the slots. -/
theorem exec_keepsSlots (s : State) (i : Instr) (hi : isInit i = false) :
    ∃ t, exec i s = .next t ∧ s.KeepsSlots t := by
  cases i with
  | init r a => exact nomatch hi
  | createChannel a pa sa oc ic => exact exec_createChannel_keepsSlots s a pa sa oc ic
  | start =>
    show ∃ t, execStart s = .next t ∧ _
    unfold execStart
    split <;> exact ⟨_, rfl, .of_same fun _ => rfl⟩
  | send id o payload => exact exec_send_keepsSlots s id o payload
  | receive id => exact exec_receive_keepsSlots s id
  | isDataAvailable id =>
    obtain ⟨r, h⟩ := exec_isDataAvailable_answers s id
    exact ⟨_, h, .of_same fun _ => rfl⟩
  | channelState id =>
    obtain ⟨r, h⟩ := exec_channelState_answers s id
    exact ⟨_, h, .of_same fun _ => rfl⟩
  | readStatus selector => exact ⟨_, rfl, .of_same fun _ => rfl⟩
  | readChannel id selector => exact ⟨_, rfl, .of_same fun _ => rfl⟩
  | tick => exact ⟨_, rfl, (s.withReply []).tick_keepsSlots⟩
  | rxByte b => exact ⟨_, rfl, .of_same ((s.withReply []).channel_receiveByte b)⟩
  | ack => exact ⟨_, rfl, .of_same (s.channel_deliver .ack)⟩
  | nack => exact ⟨_, rfl, .of_same (s.channel_deliver .nack)⟩
  | eot => exact ⟨_, rfl, .of_same (s.channel_deliver .eot)⟩
  | poll a => exact ⟨_, rfl, .of_same (s.channel_deliver (.poll a))⟩
  | select a o payload => exact ⟨_, rfl, .of_same (s.channel_deliver (.select ⟨a, o, payload⟩))⟩
  | respond a o payload => exact ⟨_, rfl, .of_same (s.channel_deliver (.respond ⟨a, o, payload⟩))⟩

/-- Settles O52: the next state of every instruction but INIT keeps every occupied slot. -/
theorem slotsAreStable : Obligations.SlotsAreStable := by
  intro i s t j c hi ht hc
  obtain ⟨t', ht', hkeeps⟩ := exec_keepsSlots s i hi
  rw [ht] at ht'
  cases ht'
  exact hkeeps j c hc

end Sys2Proof.Machine
end

/-! # The round robin (42_registry.md R183) -/

section
namespace Sys2Proof.Machine

variable (s : State)

/-- The slot the scan starts at: the one after the current, slot 0 where there is none. -/
def State.scanStart : Fin nCh := if s.curValid then s.curIndex + 1 else 0

/-- The slot at place `k` of the scan, as R183 counts it: the scan wraps from 31 to 0. -/
theorem State.scanStart_add_val (k : Fin nCh) :
    (s.scanStart + k).val = ((if s.curValid = true then s.curIndex.val + 1 else 0) + k.val) % 32 := by
  unfold State.scanStart
  split <;> simp [Fin.val_add, Nat.mod_eq_of_lt k.isLt]

/-- The scan is a search for its first place with an occupied slot. -/
theorem State.advanceRoundRobin_eq_map :
    s.advanceRoundRobin = (Fin.find? fun k => (s.channel (s.scanStart + k)).isSome).map (s.scanStart + ·) := by
  rw [Fin.find?_eq_find?_finRange]
  exact List.find?_map ..

/-- Every slot has a place in the scan. -/
theorem State.advanceRoundRobin_eq_none : s.advanceRoundRobin = none ↔ ∀ i, s.channel i = none := by
  rw [State.advanceRoundRobin_eq_map, Option.map_eq_none_iff, Fin.find?_eq_none_iff]
  simp only [Option.isSome_eq_false_iff, Option.isNone_iff_eq_none]
  refine ⟨fun h i => ?_, fun h k => h _⟩
  have := h (i - s.scanStart)
  rwa [add_sub_cancel] at this

theorem State.advanceRoundRobin_eq_some {j : Fin nCh} :
    s.advanceRoundRobin = some j ↔
      ∃ k, j = s.scanStart + k ∧ (s.channel j).isSome = true ∧ ∀ m < k, s.channel (s.scanStart + m) = none := by
  rw [State.advanceRoundRobin_eq_map, Option.map_eq_some_iff]
  simp only [Fin.find?_eq_some_iff, Option.isSome_eq_false_iff, Option.isNone_iff_eq_none]
  constructor
  · rintro ⟨k, ⟨hk, hlt⟩, rfl⟩
    exact ⟨k, rfl, hk, hlt⟩
  · rintro ⟨k, rfl, hk, hlt⟩
    exact ⟨k, ⟨hk, hlt⟩, rfl⟩

/-- Settles O56: the places of the scan are the numbers below 32. -/
theorem roundRobinFindsTheNextOccupiedSlot : Obligations.RoundRobinFindsTheNextOccupiedSlot := by
  rintro s start rfl
  refine ⟨s.advanceRoundRobin_eq_none, fun j => s.advanceRoundRobin_eq_some.trans ⟨?_, ?_⟩⟩
  · rintro ⟨k, rfl, hk, hlt⟩
    refine ⟨k, k.isLt, s.scanStart_add_val k, hk, fun m hm i hi => ?_⟩
    have hplace : i = s.scanStart + ⟨m, hm.trans k.isLt⟩ := Fin.ext (hi.trans (s.scanStart_add_val ⟨m, _⟩).symm)
    rw [hplace]
    exact hlt _ hm
  · rintro ⟨k, hk32, hj, hk, hlt⟩
    exact ⟨⟨k, hk32⟩, Fin.ext (hj.trans (s.scanStart_add_val ⟨k, hk32⟩).symm), hk,
      fun m hm => hlt m hm _ (s.scanStart_add_val m)⟩

end Sys2Proof.Machine
end

/-! # Timers (42_registry.md R190 to R192) -/

section
namespace Sys2Proof.Machine

/-- The difference wraps (R192): the ticks since a timer was armed are counted exactly below 2^32. -/
theorem elapsed_toNat (now : Word) {d : Nat} (hd : d < 2 ^ 32) : (now + BitVec.ofNat 32 d - now).toNat = d := by
  rw [BitVec.add_comm, BitVec.add_sub_cancel, BitVec.toNat_ofNat, Nat.mod_eq_of_lt hd]

/-- Settles O57: the condition of R192, with the ticks counted exactly. -/
theorem timersExpireAtTheirInterval : Obligations.TimersExpireAtTheirInterval := by
  refine ⟨fun now interval d hd => ?_, fun t now => ⟨t.expired_disarm now, t.disarm_start, t.disarm_interval⟩⟩
  rw [Timer.expired_iff, Timer.Elapsed, armTimer_armed, armTimer_start, armTimer_interval, elapsed_toNat now hd]
  exact and_iff_right rfl

end Sys2Proof.Machine
end

/-! Proofs of the statements about the tick engine (spec/43_engine.md): the byte input, what a tick finds, and the
direction of the line. -/

/-! # What a hook and a handler can do

One pass over the rules of 44_master.md and 45_slave.md says what they leave of the line, the framer, the top state and
the error count. The INIT handler, the one rule that does more, is `State.dispatch_init`. -/

section
namespace Sys2Proof.Machine

/-- `t` comes from `s` without an action, or by sending one frame (43_engine.md R223). -/
def State.LineMoves (s t : State) : Prop :=
  (t.actions = s.actions ∧ t.loopbackPending = s.loopbackPending) ∨
  ∃ bytes, t.actions = s.actions ++ [.txMode, .transmit bytes] ∧ t.loopbackPending = true

/-- What a hook, or a handler of an event other than INIT, can do to the line, the framer, the top state and the error
count: one frame may be sent, and a NACK may be counted (44_master.md R262, 45_slave.md R298). -/
structure State.RuleMoves (s t : State) : Prop where
  line     : s.LineMoves t := by exact .inl ⟨rfl, rfl⟩
  rxCount  : t.rxCount = s.rxCount := by rfl
  silence  : t.silence = s.silence := by rfl
  curState : t.curState = s.curState := by rfl
  errCount : t.errCount = s.errCount ∨ s.rxKind = .nack := by exact .inl rfl

variable {s : State}

theorem State.RuleMoves.onChannel {u : State} (h : s.RuleMoves u) {i : Fin nCh} {f : Channel → State}
    (hf : ∀ c, s.RuleMoves (f c)) : s.RuleMoves (u.onChannel i f) := by
  rcases u.onChannel_cases i f with ⟨-, heq⟩ | ⟨c, -, heq⟩ <;> rw [heq]
  · exact h
  · exact hf c

/-- MIRROR writes the state timer only (45_slave.md R282). -/
theorem State.exists_mirror_eq (s : State) : ∃ timer, s.mirror = { s with stateTimer := timer } := by
  unfold State.mirror
  rcases s.onChannel_cases 0 _ with ⟨-, heq⟩ | ⟨c, -, heq⟩ <;> rw [heq]
  · exact ⟨s.stateTimer, rfl⟩
  · split
    · exact ⟨c.resync, rfl⟩
    · exact ⟨s.stateTimer.disarm, rfl⟩

/-! ## The master -/

theorem State.visit_ruleMoves (s : State) (i : Fin nCh) (c : Channel) : s.RuleMoves (s.visit i c) := by
  unfold State.visit State.visitOnlinePoll State.visitOffline
  (repeat' split) <;> exact {}

theorem masterIdle_ruleMoves (s : State) (ev : Event) : s.RuleMoves (masterIdle s ev) := by
  cases ev with
  | jumpState =>
    show s.RuleMoves s.schedule
    unfold State.schedule
    cases s.advanceRoundRobin with
    | none => exact {}
    | some r =>
      refine State.RuleMoves.onChannel {} fun c => ?_
      obtain ⟨line, rxCount, silence, curState, errCount⟩ :=
        State.visit_ruleMoves { s with curIndex := r, curValid := true } r c
      exact ⟨line, rxCount, silence, curState, errCount⟩
  | _ => exact {}

theorem masterPollUnanswered_ruleMoves (s : State) : s.RuleMoves (masterPollUnanswered s) :=
  State.RuleMoves.onChannel {} fun _ => {}

theorem masterPollFrame_ruleMoves (s : State) : s.RuleMoves (masterPollFrame s) := by
  unfold masterPollFrame
  split
  case h_1 => exact State.RuleMoves.onChannel {} fun _ => {}
  case h_2 =>
    refine State.RuleMoves.onChannel {} fun c => ?_
    split
    · cases c.inq.put s.rxPacket <;> exact {}
    · exact {}
  case h_3 => exact {}
  case h_4 => exact {}

theorem masterPoll_ruleMoves (s : State) (ev : Event) : s.RuleMoves (masterPoll s ev) := by
  unfold masterPoll
  split
  case h_1 => exact { line := .inr ⟨_, rfl, rfl⟩ }
  case h_2 => exact {}
  case h_3 => exact masterPollUnanswered_ruleMoves s
  case h_4 => exact masterPollFrame_ruleMoves s
  case h_5 => exact masterPollUnanswered_ruleMoves s
  case h_6 => exact { line := .inr ⟨_, rfl, rfl⟩ }
  case h_7 => exact {}

theorem masterSelectEntry_ruleMoves (s : State) : s.RuleMoves (masterSelectEntry s) := by
  refine State.RuleMoves.onChannel {} fun c => ?_
  cases c.outq.get with
  | none => exact {}
  | some taken => exact { line := .inr ⟨_, rfl, rfl⟩ }

theorem masterSelectFrame_ruleMoves (s : State) : s.RuleMoves (masterSelectFrame s) := by
  unfold masterSelectFrame
  split
  case h_1 => exact {}
  case h_2 hnack =>
    refine State.RuleMoves.onChannel {} fun c => ?_
    split
    · exact { line := .inr ⟨_, rfl, rfl⟩, errCount := .inr hnack }
    · exact { errCount := .inr hnack }
  case h_3 => exact {}

theorem masterSelect_ruleMoves (s : State) (ev : Event) : s.RuleMoves (masterSelect s ev) := by
  unfold masterSelect
  split
  case h_3 => exact masterSelectFrame_ruleMoves s
  all_goals exact {}

/-! ## The slave -/

theorem slaveIdle_ruleMoves (s : State) (ev : Event) : s.RuleMoves (slaveIdle s ev) := by
  cases ev with
  | jumpState =>
    show s.RuleMoves (slaveIdleJump s)
    unfold slaveIdleJump
    split <;> exact {}
  | _ => exact {}

theorem slaveSelectEntry_ruleMoves (s : State) : s.RuleMoves (slaveSelectEntry s) := by
  unfold slaveSelectEntry
  obtain ⟨timer, h⟩ := State.exists_mirror_eq { s with selectSub := .sendWaitOrReceiveWait }
  rw [h]
  exact {}

theorem slaveSelectReply_ruleMoves (s : State) : s.RuleMoves (slaveSelectReply s) := by
  unfold slaveSelectReply
  obtain ⟨timer, h⟩ := State.exists_mirror_eq { s.sendFrame with selectSub := .sendWaitOrReceiveWait }
  rw [h]
  exact { line := .inr ⟨_, rfl, rfl⟩ }

theorem slaveSelectFrame_ruleMoves (s : State) : s.RuleMoves (slaveSelectFrame s) := by
  unfold slaveSelectFrame
  split
  case h_1 =>
    unfold slaveSelectPoll
    split
    · exact State.RuleMoves.onChannel {} fun _ => {}
    · exact {}
  case h_2 =>
    unfold slaveSelectData slaveSelectAnswer
    split
    · refine State.RuleMoves.onChannel {} fun c => ?_
      (repeat' split) <;> exact {}
    · exact {}
  case h_3 =>
    unfold slaveSelectError
    split <;> exact {}
  case h_4 => exact {}

theorem slaveSelect_ruleMoves (s : State) (ev : Event) : s.RuleMoves (slaveSelect s ev) := by
  unfold slaveSelect
  split
  case h_1 => exact slaveSelectFrame_ruleMoves s
  case h_2 => exact State.RuleMoves.onChannel {} fun _ => {}
  case h_3 => exact slaveSelectReply_ruleMoves s
  case h_4 => exact {}

theorem slavePollEntry_ruleMoves (s : State) : s.RuleMoves (slavePollEntry s) := by
  refine State.RuleMoves.onChannel {} fun c => ?_
  split
  · cases c.outq.get <;> exact {}
  · exact {}

theorem slavePollEcho_ruleMoves (s : State) : s.RuleMoves (slavePollEcho s) := by
  unfold slavePollEcho
  (repeat' split) <;> exact {}

theorem slavePollFrame_ruleMoves (s : State) : s.RuleMoves (slavePollFrame s) := by
  unfold slavePollFrame
  split
  case h_1 => exact State.RuleMoves.onChannel {} fun _ => {}
  case h_2 hnack =>
    refine State.RuleMoves.onChannel {} fun c => ?_
    split <;> exact { errCount := .inr hnack }
  all_goals exact {}

theorem slavePoll_ruleMoves (s : State) (ev : Event) : s.RuleMoves (slavePoll s ev) := by
  unfold slavePoll
  split
  case h_1 => exact { line := .inr ⟨_, rfl, rfl⟩ }
  case h_2 => exact slavePollEcho_ruleMoves s
  case h_3 => exact {}
  case h_4 => exact slavePollFrame_ruleMoves s
  case h_5 => exact State.RuleMoves.onChannel {} fun _ => {}
  case h_6 => exact { line := .inr ⟨_, rfl, rfl⟩ }
  case h_7 => exact {}

/-! ## Every rule -/

theorem State.entryHook_ruleMoves (s : State) (target : TopState) : s.RuleMoves (s.entryHook target) := by
  unfold State.entryHook
  split
  case h_1 => exact {}
  case h_2 => exact {}
  case h_3 => exact State.RuleMoves.onChannel {} fun _ => {}
  case h_4 => exact slavePollEntry_ruleMoves s
  case h_5 => exact masterSelectEntry_ruleMoves s
  case h_6 => exact slaveSelectEntry_ruleMoves s

theorem State.handle_eq_initHandler {ev : Event} (hcur : s.curState = .init) : s.handle ev = initHandler s ev := by
  unfold State.handle
  rw [hcur]

/-- In INIT every event but INIT is ignored (43_engine.md R222). -/
theorem State.handle_of_init {ev : Event} (hcur : s.curState = .init) (hev : ev ≠ .init) : s.handle ev = s := by
  rw [State.handle_eq_initHandler hcur]
  cases ev with
  | init => exact absurd rfl hev
  | _ => rfl

theorem State.handle_ruleMoves (s : State) {ev : Event} (hev : ev ≠ .init) : s.RuleMoves (s.handle ev) := by
  by_cases hcur : s.curState = .init
  · rw [State.handle_of_init hcur hev]
    exact {}
  · unfold State.handle
    split
    next hinit => exact absurd hinit hcur
    · exact masterIdle_ruleMoves s ev
    · exact slaveIdle_ruleMoves s ev
    · exact masterPoll_ruleMoves s ev
    · exact slavePoll_ruleMoves s ev
    · exact masterSelect_ruleMoves s ev
    · exact slaveSelect_ruleMoves s ev

/-- What the completed echo lets a handler do (44_master.md R248, R259; 45_slave.md R295, R296): the sub-states, the
state timer and the pending event may be written. -/
theorem State.exists_handle_loopback_eq (s : State) :
    ∃ timer poll select e next, s.handle .loopback =
      { s with
        stateTimer := timer, pollSub := poll, selectSub := select, pendingEvent := e, nextState := next } := by
  have ignored : ∃ timer poll select e next, s =
      { s with
        stateTimer := timer, pollSub := poll, selectSub := select, pendingEvent := e, nextState := next } :=
    ⟨s.stateTimer, s.pollSub, s.selectSub, s.pendingEvent, s.nextState, rfl⟩
  unfold State.handle
  split
  case h_1 | h_2 | h_3 => exact ignored
  case h_4 =>
    unfold masterPoll
    cases s.pollSub with
    | sendWait => exact ⟨_, _, _, _, _, rfl⟩
    | _ => exact ignored
  case h_5 =>
    unfold slavePoll
    cases s.pollSub with
    | sendWait =>
      show ∃ timer poll select e next, slavePollEcho s = _
      unfold slavePollEcho
      split
      · exact ⟨_, _, _, _, _, rfl⟩
      split
      · exact ⟨_, _, _, _, _, rfl⟩
      · exact ignored
    | _ => exact ignored
  case h_6 =>
    unfold masterSelect
    cases s.selectSub with
    | sendWaitOrReceiveWait => exact ⟨_, _, _, _, _, rfl⟩
    | _ => exact ignored
  case h_7 =>
    unfold slaveSelect
    cases s.selectSub <;> exact ignored

/-- The INIT event starts the protocol from whatever state it finds (43_engine.md R218, R222). -/
theorem State.dispatch_init (s : State) :
    s.dispatch .init =
      { s with
        curState := .init, rxCount := 0#9, silence := s.silence.disarm, stateTimer := s.stateTimer.disarm,
        loopbackPending := false, curValid := false, pollSub := .sendDelay, selectSub := .sendWaitOrReceiveWait,
        actions := s.actions ++ [.rxMode, .rxArm], pendingEvent := .jumpState, nextState := .idle } := by
  by_cases hcur : s.curState = .init
  · have hstay : s.resolve .init = s.curState := hcur.symm
    rw [State.dispatch_stay (by decide) hstay, State.handle_eq_initHandler hcur, ← hcur]
    rfl
  · have hchange : s.resolve .init ≠ s.curState := Ne.symm hcur
    rw [State.dispatch_change (by decide) hchange]
    rfl

/-- The dispatch of an event other than INIT sends at most one frame: where the top state changes to POLL or SELECT the
entry hook may send, and the handler then ignores the jump. -/
theorem State.dispatch_lineMoves (s : State) {ev : Event} (hev : ev ≠ .init) : s.LineMoves (s.dispatch ev) := by
  by_cases hnone : ev = .none
  · rw [hnone]
    exact .inl ⟨rfl, rfl⟩
  by_cases hstay : s.resolve ev = s.curState
  · rw [State.dispatch_stay hnone hstay]
    exact (s.handle_ruleMoves hev).line
  · obtain rfl : ev = .jumpState := by
      cases ev with
      | jumpState => rfl
      | none => exact absurd rfl hnone
      | init => exact absurd rfl hev
      | frame | loopback | timeout => exact absurd rfl hstay
    rw [State.dispatch_change hnone hstay]
    generalize s.resolve .jumpState = target
    have entered := State.entryHook_ruleMoves { s.exitHook with curState := target } target
    cases target with
    | init | idle => exact (State.handle_ruleMoves _ hev).line
    | poll =>
      rw [State.handle_jump (.inl entered.curState)]
      exact entered.line
    | select =>
      rw [State.handle_jump (.inr entered.curState)]
      exact entered.line

end Sys2Proof.Machine
end

/-! # The direction of the line (43_engine.md R213, R216, R223) -/

section
namespace Sys2Proof.Machine

variable {s t : State}

/-- The last direction action of a longer trace is that of its end, where its end has one. -/
theorem lastDirection_append (a b : List Action) :
    lastDirection (a ++ b) = (lastDirection b).or (lastDirection a) := by
  rw [lastDirection, List.filter_append, List.getLast?_append, lastDirection, lastDirection]

/-- A frame sent turns the line to transmit. -/
theorem State.LineMoves.lineOk (h : s.LineMoves t) (hs : s.LineOk) : t.LineOk := by
  intro hecho
  rcases h with ⟨hactions, hline⟩ | ⟨bytes, hactions, -⟩ <;> rw [hactions]
  · exact hs (hline.symm.trans hecho)
  · rw [lastDirection_append]
    rfl

/-- Where no echo is awaited the line may have either direction. -/
theorem State.lineOk_of_no_echo (h : s.loopbackPending = false) : s.LineOk :=
  fun hecho => nomatch h.symm.trans hecho

theorem State.LineOk.dispatch (h : s.LineOk) (ev : Event) : (s.dispatch ev).LineOk := by
  by_cases hev : ev = .init
  · rw [hev, State.dispatch_init]
    exact State.lineOk_of_no_echo rfl
  · exact (s.dispatch_lineMoves hev).lineOk h

@[simp] theorem State.receiveByte_loopbackPending (s : State) (b : Byte) :
    (s.receiveByte b).loopbackPending = s.loopbackPending := by
  unfold State.receiveByte State.storeByte
  split <;> rfl

/-- RX_ARM is no direction action. -/
theorem State.LineOk.receiveByte (h : s.LineOk) (b : Byte) : (s.receiveByte b).LineOk := by
  intro hecho
  rw [State.receiveByte_loopbackPending] at hecho
  show lastDirection (s.actions ++ [.rxArm]) = _
  rw [lastDirection_append]
  exact h hecho

theorem State.LineOk.receiveBytes (h : s.LineOk) (bytes : List Byte) : (s.receiveBytes bytes).LineOk := by
  induction bytes generalizing s with
  | nil => exact h
  | cons b bs ih => exact ih (h.receiveByte b)

/-- The event of a tick is dispatched from a state in which either no echo is awaited or the line is as it was. -/
theorem exec_tick_lineOk (h : s.LineOk) : ∃ t, exec .tick s = .next t ∧ t.LineOk := by
  rcases tick_finds s with hstopped | hnothing | hgarbage | hecho | ⟨k, p, hreceive⟩ | ⟨e, hpending⟩ | htimeout
  · exact ⟨_, exec_tick_stopped hstopped, h⟩
  · exact ⟨_, exec_tick_nothing hnothing, h⟩
  · exact ⟨_, exec_tick_garbage hgarbage, h⟩
  · exact ⟨_, exec_tick_echo hecho, (State.lineOk_of_no_echo (s := s.tickEcho) rfl).dispatch _⟩
  · exact ⟨_, exec_tick_frame hreceive, State.LineOk.dispatch (s := s.tickFrame k p) h _⟩
  · exact ⟨_, exec_tick_pending hpending, State.LineOk.dispatch (s := s.tickPending) h _⟩
  · exact ⟨_, exec_tick_timeout htimeout, (State.lineOk_of_no_echo (s := s.tickTimeout) rfl).dispatch _⟩

/-- Of the instructions only the tick, INIT and the byte input reach the line. -/
theorem exec_lineOk (h : s.LineOk) (i : Instr) : ∃ t, exec i s = .next t ∧ t.LineOk := by
  have delivered (f : Frame) : (s.deliver f).LineOk := State.LineOk.receiveBytes (s := s.withReply []) h _
  cases i with
  | init r a => exact ⟨_, rfl, State.lineOk_of_no_echo rfl⟩
  | createChannel a pa sa oc ic =>
    rcases exec_createChannel_cases s a pa sa oc ic with ⟨r, heq⟩ | ⟨k, r, -, -, heq⟩ <;> exact ⟨_, heq, h⟩
  | start =>
    show ∃ t, execStart s = .next t ∧ _
    unfold execStart
    split <;> exact ⟨_, rfl, h⟩
  | send id o payload =>
    rcases exec_send_cases s id o payload with ⟨r, heq⟩ | ⟨k, c, q, r, -, -, -, heq⟩ <;> exact ⟨_, heq, h⟩
  | receive id =>
    rcases exec_receive_cases s id with ⟨r, heq⟩ | ⟨k, c, p, q, r, -, -, heq⟩ <;> exact ⟨_, heq, h⟩
  | isDataAvailable id =>
    obtain ⟨r, heq⟩ := exec_isDataAvailable_answers s id
    exact ⟨_, heq, h⟩
  | channelState id =>
    obtain ⟨r, heq⟩ := exec_channelState_answers s id
    exact ⟨_, heq, h⟩
  | readStatus selector => exact ⟨_, rfl, h⟩
  | readChannel id selector => exact ⟨_, rfl, h⟩
  | tick => exact exec_tick_lineOk h
  | rxByte b => exact ⟨_, rfl, State.LineOk.receiveByte (s := s.withReply []) h b⟩
  | ack => exact ⟨_, rfl, delivered .ack⟩
  | nack => exact ⟨_, rfl, delivered .nack⟩
  | eot => exact ⟨_, rfl, delivered .eot⟩
  | poll a => exact ⟨_, rfl, delivered (.poll a)⟩
  | select a o payload => exact ⟨_, rfl, delivered (.select ⟨a, o, payload⟩)⟩
  | respond a o payload => exact ⟨_, rfl, delivered (.respond ⟨a, o, payload⟩)⟩

/-- Settles O50: an input that decodes is an instruction, any other bytes reach the byte input. -/
theorem everyStepKeepsTheLineDirection : Obligations.EveryStepKeepsTheLineDirection := by
  intro s t hs ht
  have taken (rest : List Strobe) : ({ s with input := rest } : State).LineOk := hs
  rcases step_cases s with ⟨-, hstep⟩ | ⟨x, rest, i, -, -, hstep⟩ | ⟨x, rest, e, -, -, hstep⟩ <;> rw [hstep] at ht
  · cases ht
    exact hs
  · obtain ⟨t', ht', hline⟩ := exec_lineOk (taken rest) i
    rw [ht] at ht'
    cases ht'
    exact hline
  · cases ht
    cases x with
    | record bytes => exact hs
    | frame bytes => exact State.LineOk.receiveBytes (s := State.withReply { s with input := rest } []) hs bytes

end Sys2Proof.Machine
end

/-! # The byte input (43_engine.md R221) -/

section
namespace Sys2Proof

variable (p : Params) {f : List Byte}

theorem decodeEotArm_none_of_long (hlen : 56 < f.length) : (decodeEotArm p f).1 = .none := by
  rw [decodeEotArm, if_neg (by omega), if_neg (by omega)]
  split
  · rw [if_pos (.inr hlen)]
  · rfl

theorem decodeStxArm_none_of_long (hlen : 55 < f.length) : (decodeStxArm p f).1 = .none := by
  rw [decodeStxArm]
  split
  · rw [if_pos (.inr hlen)]
  · rfl

/-- A frame longer than the longest that can be sent is NONE (40_codec.md R154, R155). -/
theorem decodeFrame_none_of_long (hlen : 56 < f.length) : (decodeFrame p f).1 = .none := by
  unfold decodeFrame
  dsimp only
  split
  · exact if_neg (by omega)
  split
  · exact if_neg (by omega)
  split
  · exact decodeEotArm_none_of_long p hlen
  split
  · exact decodeStxArm_none_of_long p (by omega)
  · rfl

end Sys2Proof

namespace Sys2Proof.Machine

/-- Settles O22: the byte is stored by one write of the buffer, or discarded. -/
theorem receivedByteIsStoredAndRearms : Obligations.ReceivedByteIsStoredAndRearms := by
  intro s b hwf
  refine ⟨fun hroom => ⟨s.rxBuf.write s.rxCount.toNat b, ?stored, Buffer.read_write hwf hroom b⟩,
    fun hfull => ?discarded, fun p f => decodeFrame_none_of_long p⟩
  case stored => exact congrArg Host.Outcome.next (State.receiveByte_room (s := s.withReply []) hroom b)
  case discarded => exact congrArg Host.Outcome.next (State.receiveByte_full (s := s.withReply []) hfull b)

end Sys2Proof.Machine
end

/-! # The tick (43_engine.md R210 to R222) -/

section
namespace Sys2Proof.Machine

/-- Settles O24: the three ticks that dispatch no event. -/
theorem tickWithoutAnEvent : Obligations.TickWithoutAnEvent :=
  fun _ => ⟨exec_tick_stopped, exec_tick_nothing, exec_tick_garbage⟩

/-- From `s` the counter moved by one, and the configuration and the receive buffer are as they were. -/
abbrev State.Counts (s t : State) : Prop :=
  t.tickCount = s.now ∧ t.role = s.role ∧ t.stationAddress = s.stationAddress ∧ t.running = s.running ∧
    t.params = s.params ∧ t.input = s.input ∧ t.rxBuf = s.rxBuf ∧ t.reply = []

/-- No hook and no handler writes any of it. -/
theorem State.Counts.dispatch {s u : State} (h : s.Counts u) (ev : Event) : s.Counts (u.dispatch ev) := by
  obtain ⟨htick, hrole, haddress, hrunning, hparams, hinput, hbuf, hreply⟩ := h
  obtain ⟨dRole, dAddress, dRunning, dTick, dParams, dInput, dReply, dBuf, -⟩ := u.dispatch_sameRecord ev
  exact ⟨dTick.trans htick, dRole.trans hrole, dAddress.trans haddress, dRunning.trans hrunning,
    dParams.trans hparams, dInput.trans hinput, dBuf.trans hbuf, dReply.trans hreply⟩

theorem exec_tick_counts {s : State} (hrunning : s.running = true) : ∃ t, exec .tick s = .next t ∧ s.Counts t := by
  have unchanged : s.Counts { s with reply := [], tickCount := s.now } := ⟨rfl, rfl, rfl, rfl, rfl, rfl, rfl, rfl⟩
  rcases tick_finds s with hstopped | hnothing | hgarbage | hecho | ⟨k, p, hreceive⟩ | ⟨e, hpending⟩ | htimeout
  · exact nomatch hrunning.symm.trans hstopped
  · exact ⟨_, exec_tick_nothing hnothing, unchanged⟩
  · exact ⟨_, exec_tick_garbage hgarbage, unchanged⟩
  · exact ⟨_, exec_tick_echo hecho, State.Counts.dispatch (u := s.tickEcho) unchanged _⟩
  · exact ⟨_, exec_tick_frame hreceive, State.Counts.dispatch (u := s.tickFrame k p) unchanged _⟩
  · exact ⟨_, exec_tick_pending hpending, State.Counts.dispatch (u := s.tickPending) unchanged _⟩
  · exact ⟨_, exec_tick_timeout htimeout, State.Counts.dispatch (u := s.tickTimeout) unchanged _⟩

/-- Settles O25: the derivation of the event moves the counter, and its dispatch keeps what it left. -/
theorem tickCountsAndKeepsTheConfiguration : Obligations.TickCountsAndKeepsTheConfiguration := by
  intro s hrunning
  obtain ⟨t, ht, htick, hrole, haddress, hrun, hparams, hinput, hbuf, hreply⟩ := exec_tick_counts hrunning
  exact ⟨t, ht, htick, hrole, haddress, hrun.trans hrunning, hparams, hinput, hbuf, hreply⟩

/-- Settles O26: the frame is recorded before its handler runs, and no handler but that of a NACK touches the record
and the counts. -/
theorem frameIsRecordedAndCounted : Obligations.FrameIsRecordedAndCounted := by
  intro s k p hdue
  have hhandle := exec_tick_frame hdue
  rw [State.dispatch_here (.inl rfl)] at hhandle
  obtain ⟨-, -, -, -, -, -, -, -, hkind, hpacket, hcount⟩ := (s.tickFrame k p).handle_sameRecord .frame
  obtain ⟨-, hrxCount, hsilence, hcur, herr⟩ := (s.tickFrame k p).handle_ruleMoves (ev := .frame) (by decide)
  have counted (hk : k ≠ .nack) :
      ((s.tickFrame k p).handle .frame).errCount = if k = .error then s.errCount + 1#32 else s.errCount :=
    herr.resolve_right hk
  refine ⟨_, hhandle, hkind, hpacket, hcount, hrxCount, by rw [hsilence]; rfl, hcur, fun hk => ?error,
    fun hk hn => ?other⟩
  case error => rw [counted (by rw [hk]; decide), if_pos hk]
  case other => rw [counted hn, if_neg hk]

/-- Settles O27: the derivation of the event releases the line; the handler of the echo then emits nothing, that of a
TIMEOUT only adds to the trace. -/
theorem echoAndTimeoutReleaseTheLine : Obligations.EchoAndTimeoutReleaseTheLine := by
  intro s
  refine ⟨fun hdue => ?echo, fun hdue hline => ?timeout⟩
  case echo =>
    obtain ⟨timer, poll, select, e, next, hhandle⟩ := s.tickEcho.exists_handle_loopback_eq
    have htick := exec_tick_echo hdue
    rw [State.dispatch_here (.inr (.inl rfl)), hhandle] at htick
    exact ⟨_, htick, rfl, rfl, rfl, rfl, rfl, rfl, rfl, rfl, rfl, rfl⟩
  case timeout =>
    have hreleased : s.tickTimeout.actions = s.actions ++ [.rxMode] := if_pos hline
    rcases s.tickTimeout.dispatch_lineMoves (ev := .timeout) (by decide) with ⟨hactions, -⟩ | ⟨bytes, hactions, -⟩
    · exact ⟨_, [], exec_tick_timeout hdue, hactions.trans hreleased⟩
    · refine ⟨_, [.txMode, .transmit bytes], exec_tick_timeout hdue, ?_⟩
      rw [hactions, hreleased, List.append_assoc]
      rfl

/-- Settles O28: what the INIT event's dispatch does; no other event that INIT can meet changes the top state, and its
handler ignores them all. -/
theorem initEventStartsTheProtocol : Obligations.InitEventStartsTheProtocol := by
  intro s
  refine ⟨fun hdue => ?started, fun hcur => ⟨fun hdue => ?echo, fun k p hdue => ?frame, fun hdue => ?timeout,
    fun hdue hnext => ?jump⟩⟩
  case started =>
    rw [exec_tick_pending hdue, State.dispatch_init]
    rfl
  case echo =>
    rw [exec_tick_echo hdue, State.dispatch_here (.inr (.inl rfl)),
      State.handle_of_init (s := s.tickEcho) hcur (by decide)]
  case frame =>
    rw [exec_tick_frame hdue, State.dispatch_here (.inl rfl),
      State.handle_of_init (s := s.tickFrame k p) hcur (by decide)]
  case timeout =>
    rw [exec_tick_timeout hdue, State.dispatch_here (.inr (.inr rfl)),
      State.handle_of_init (s := s.tickTimeout) hcur (by decide)]
  case jump =>
    rw [exec_tick_pending hdue, dispatch_jump_here (hnext.trans hcur.symm),
      State.handle_of_init (s := s.tickPending) hcur (by decide)]

end Sys2Proof.Machine
end

/-! Proofs of the statements about the master (spec/44_master.md): the scheduler, POLL, SELECT, and the events it
ignores. -/

/-! # The handler a tick reaches (43_engine.md R218 to R220)

Laws/Tick.lean says which event a tick dispatches; these lemmas say the state its handler or its entry hook starts
from. They hold for both roles. -/

section
namespace Sys2Proof.Machine

variable {s : State}

theorem exec_tick_echo_handle (hdue : s.EchoDue) : exec .tick s = .next (s.tickEcho.handle .loopback) := by
  rw [exec_tick_echo hdue, State.dispatch_here (.inr (.inl rfl))]

theorem exec_tick_frame_handle {k : FrameKind} {p : Packet} (hdue : s.ReceiveDue k p) :
    exec .tick s = .next ((s.tickFrame k p).handle .frame) := by
  rw [exec_tick_frame hdue, State.dispatch_here (.inl rfl)]

theorem exec_tick_timeout_handle (hdue : s.TimeoutDue) : exec .tick s = .next (s.tickTimeout.handle .timeout) := by
  rw [exec_tick_timeout hdue, State.dispatch_here (.inr (.inr rfl))]

/-- A jump to the current state moves nothing but the pending event (R219). -/
theorem State.tickJump_eq_tickPending (hstay : s.nextState = s.curState) : s.tickJump = s.tickPending := by
  simp [State.tickJump, State.tickPending, hstay]

/-- IDLE has no entry hook (R226), so a jump to it is handled alike from IDLE and from every other state. -/
theorem exec_tick_jump_idle (hdue : s.PendingDue .jumpState) (hnext : s.nextState = .idle) :
    exec .tick s = .next (s.tickJump.handle .jumpState) := by
  rw [exec_tick_pending hdue]
  by_cases hstay : s.nextState = s.curState
  · rw [dispatch_jump_here hstay, State.tickJump_eq_tickPending hstay]
  · rw [dispatch_jump hstay, hnext]
    rfl

/-- Entering POLL or SELECT is the entry hook alone: the handler of the new state ignores the jump. -/
theorem exec_tick_jump_enter (hdue : s.PendingDue .jumpState) (hnext : s.nextState = .poll ∨ s.nextState = .select)
    (hchange : s.curState ≠ s.nextState) : exec .tick s = .next (s.tickJump.entryHook s.nextState) := by
  have hentered : (s.tickJump.entryHook s.nextState).curState = s.nextState := State.entryHook_curState _ _
  rw [exec_tick_pending hdue, dispatch_jump hchange.symm, State.handle_jump (by rwa [hentered])]

end Sys2Proof.Machine
end

/-! # The hooks and handlers of the master, case by case -/

section
namespace Sys2Proof.Machine

variable {s : State} {c : Channel}

/-! ## By the top state -/

theorem State.handle_of_masterIdle {ev : Event} (hrole : s.role = .master) (hcur : s.curState = .idle) :
    s.handle ev = masterIdle s ev := by
  unfold State.handle
  rw [hcur, hrole]

theorem State.handle_of_masterPoll {ev : Event} (hrole : s.role = .master) (hcur : s.curState = .poll) :
    s.handle ev = masterPoll s ev := by
  unfold State.handle
  rw [hcur, hrole]

theorem State.handle_of_masterSelect {ev : Event} (hrole : s.role = .master) (hcur : s.curState = .select) :
    s.handle ev = masterSelect s ev := by
  unfold State.handle
  rw [hcur, hrole]

theorem State.entryHook_poll_of_master (hrole : s.role = .master) : s.entryHook .poll = masterPollEntry s := by
  unfold State.entryHook
  rw [hrole]

theorem State.entryHook_select_of_master (hrole : s.role = .master) : s.entryHook .select = masterSelectEntry s := by
  unfold State.entryHook
  rw [hrole]

/-! ## By the sub-state -/

theorem masterPoll_sendDelay_timeout (hsub : s.pollSub = .sendDelay) : masterPoll s .timeout = masterPollSend s := by
  unfold masterPoll
  rw [hsub]

theorem masterPoll_sendWait_loopback (hsub : s.pollSub = .sendWait) : masterPoll s .loopback = masterPollEcho s := by
  unfold masterPoll
  rw [hsub]

theorem masterPoll_wait_timeout (hsub : s.pollSub = .sendWait ∨ s.pollSub = .replyWait) :
    masterPoll s .timeout = masterPollUnanswered s := by
  unfold masterPoll
  rcases hsub with hsub | hsub <;> rw [hsub]

theorem masterPoll_replyWait_frame (hsub : s.pollSub = .replyWait) : masterPoll s .frame = masterPollFrame s := by
  unfold masterPoll
  rw [hsub]

theorem masterPoll_sendAckDelay_timeout (hsub : s.pollSub = .sendAckDelay) :
    masterPoll s .timeout = masterPollReply s := by
  unfold masterPoll
  rw [hsub]

theorem masterSelect_sendWait_loopback (hsub : s.selectSub = .sendWaitOrReceiveWait) :
    masterSelect s .loopback = masterSelectEcho s := by
  unfold masterSelect
  rw [hsub]

theorem masterSelect_replyWait_frame (hsub : s.selectSub = .replyAckWaitOrSendAckDelay) :
    masterSelect s .frame = masterSelectFrame s := by
  unfold masterSelect
  rw [hsub]

/-- A TIMEOUT ends the exchange in either sub-state (44_master.md R261, R264). -/
theorem masterSelect_timeout : masterSelect s .timeout = masterSelectOverrun s := by
  unfold masterSelect
  cases s.selectSub <;> rfl

/-! ## By the kind of the frame -/

theorem masterPollFrame_eot (hkind : s.rxKind = .eot) : masterPollFrame s = masterPollEot s := by
  unfold masterPollFrame
  rw [hkind]

theorem masterPollFrame_respond (hkind : s.rxKind = .respond) : masterPollFrame s = masterPollRespond s := by
  unfold masterPollFrame
  rw [hkind]

theorem masterPollFrame_error (hkind : s.rxKind = .error) : masterPollFrame s = masterPollError s := by
  unfold masterPollFrame
  rw [hkind]

theorem masterSelectFrame_ack (hkind : s.rxKind = .ack) : masterSelectFrame s = masterSelectAck s := by
  unfold masterSelectFrame
  rw [hkind]

theorem masterSelectFrame_nack (hkind : s.rxKind = .nack) : masterSelectFrame s = masterSelectNack s := by
  unfold masterSelectFrame
  rw [hkind]

/-! ## What no rule names (44_master.md R245, R256, R263) -/

/-- Every event but a jump is ignored in IDLE. -/
theorem masterIdle_ignored {ev : Event} (hev : ev ≠ .jumpState) : masterIdle s ev = s := by
  cases ev with
  | jumpState => exact absurd rfl hev
  | none | frame | loopback | init | timeout => rfl

theorem masterPoll_loopback_ignored (hsub : s.pollSub ≠ .sendWait) : masterPoll s .loopback = s := by
  unfold masterPoll
  cases hs : s.pollSub with
  | sendWait => exact absurd hs hsub
  | sendDelay | replyWait | sendAckDelay => rfl

theorem masterPollFrame_ignored (hkind : ¬ (s.rxKind = .eot ∨ s.rxKind = .respond ∨ s.rxKind = .error)) :
    masterPollFrame s = s := by
  unfold masterPollFrame
  cases hk : s.rxKind with
  | eot => exact absurd (.inl hk) hkind
  | respond => exact absurd (.inr (.inl hk)) hkind
  | error => exact absurd (.inr (.inr hk)) hkind
  | none | ack | nack | poll | select => rfl

theorem masterPoll_frame_ignored
    (h : ¬ (s.pollSub = .replyWait ∧ (s.rxKind = .eot ∨ s.rxKind = .respond ∨ s.rxKind = .error))) :
    masterPoll s .frame = s := by
  cases hs : s.pollSub with
  | replyWait => rw [masterPoll_replyWait_frame hs, masterPollFrame_ignored fun hkind => h ⟨hs, hkind⟩]
  | sendDelay | sendWait | sendAckDelay =>
    unfold masterPoll
    rw [hs]

theorem masterSelect_loopback_ignored (hsub : s.selectSub ≠ .sendWaitOrReceiveWait) :
    masterSelect s .loopback = s := by
  unfold masterSelect
  cases hs : s.selectSub with
  | sendWaitOrReceiveWait => exact absurd hs hsub
  | replyAckWaitOrSendAckDelay => rfl

theorem masterSelectFrame_ignored (hkind : ¬ (s.rxKind = .ack ∨ s.rxKind = .nack)) : masterSelectFrame s = s := by
  unfold masterSelectFrame
  cases hk : s.rxKind with
  | ack => exact absurd (.inl hk) hkind
  | nack => exact absurd (.inr hk) hkind
  | none | eot | poll | select | respond | error => rfl

theorem masterSelect_frame_ignored
    (h : ¬ (s.selectSub = .replyAckWaitOrSendAckDelay ∧ (s.rxKind = .ack ∨ s.rxKind = .nack))) :
    masterSelect s .frame = s := by
  cases hs : s.selectSub with
  | replyAckWaitOrSendAckDelay =>
    rw [masterSelect_replyWait_frame hs, masterSelectFrame_ignored fun hkind => h ⟨hs, hkind⟩]
  | sendWaitOrReceiveWait =>
    unfold masterSelect
    rw [hs]

/-! ## On the current channel -/

theorem masterPollEntry_eq (hc : s.channel s.curIndex = some c) :
    masterPollEntry s =
      State.armStateTimer ({ s with pollSub := .sendDelay }.loadTx (.poll c.address)) s.params.tSendDelay :=
  State.onChannel_some _ hc

theorem masterPollUnanswered_eq (hc : s.channel s.curIndex = some c) :
    masterPollUnanswered s = (s.setChannel s.curIndex (s.unansweredChannel c)).post .jumpState .idle :=
  State.onChannel_some _ hc

theorem masterPollEot_eq (hc : s.channel s.curIndex = some c) :
    masterPollEot s = (s.setChannel s.curIndex (s.answeredChannel c)).post .jumpState .idle :=
  State.onChannel_some _ hc

/-! ## The channel after a poll -/

/-- An unanswered poll below the threshold is only counted (R254). -/
theorem State.unansweredChannel_of_lt (h : (satInc8 c.notRespond).toNat < 3) :
    s.unansweredChannel c = { c with notRespond := satInc8 c.notRespond } :=
  if_neg (by simpa [BitVec.le_def, notRespondMax] using h)

/-- From the threshold on the channel is OFFLINE (R254, 42_registry.md R185). -/
theorem State.unansweredChannel_of_le (h : 3 ≤ (satInc8 c.notRespond).toNat) :
    s.unansweredChannel c =
      { c with
        notRespond := satInc8 c.notRespond, state := .offline,
        resync := if c.state = .offline then c.resync else armTimer s.tickCount s.params.tResyncOffline } := by
  unfold State.unansweredChannel
  rw [if_pos (by simpa [BitVec.le_def, notRespondMax] using h), State.transition_frame]
  rfl

/-- An answer brings the channel of a master ONLINE (R250, R251; 42_registry.md R184, R185): the deadline of a channel
that is polled anyway is disarmed. -/
theorem State.answeredChannel_of_master (hrole : s.role = .master) :
    s.answeredChannel c =
      { c with
        notRespond := 0#8, state := .online,
        resync :=
          if c.state = .online then c.resync
          else if c.pollActive then { c.resync with armed := false }
          else armTimer s.tickCount s.params.tResyncOnline } := by
  have hpoller : s.poller c = c.pollActive := by simp [State.poller, hrole]
  unfold State.answeredChannel
  rw [State.transition_frame, State.transitionTimer, hpoller]
  rfl

end Sys2Proof.Machine
end

/-! # The scheduler (44_master.md R240 to R244) -/

section
namespace Sys2Proof.Machine

variable {s : State} {c : Channel} {r : Fin nCh}

/-- The condition of R242. -/
theorem Channel.selectDue_iff :
    c.selectDue = true ↔
      c.outq.items ≠ [] ∧ c.selectActive = true ∧ (c.preSelected = false ∨ c.pollActive = false) := by
  simp [Channel.selectDue, Queue.isEmpty, and_assoc]

theorem Channel.not_selectDue_iff :
    ¬ c.selectDue = true ↔
      c.outq.items = [] ∨ c.selectActive = false ∨ (c.preSelected = true ∧ c.pollActive = true) := by
  simp [Channel.selectDue_iff, imp_iff_not_or]

theorem State.schedule_of_no_channel (h : ∀ i, s.channel i = none) : s.schedule = s.post .jumpState .idle := by
  unfold State.schedule
  rw [s.advanceRoundRobin_eq_none.mpr h]

theorem State.schedule_of_next (hr : s.advanceRoundRobin = some r) (hc : s.channel r = some c) :
    s.schedule = State.visit { s with curIndex := r, curValid := true } r c := by
  unfold State.schedule
  rw [hr]
  exact State.onChannel_some _ hc

/-! ## One visit, branch by branch -/

theorem State.visit_init (hstate : c.state = .init) : s.visit r c = s.post .jumpState .poll := by
  unfold State.visit
  rw [hstate]

theorem State.visit_online_select (hstate : c.state = .online) (hdue : c.selectDue = true) :
    s.visit r c = (s.setChannel r { c with preSelected := true }).post .jumpState .select := by
  unfold State.visit
  rw [hstate]
  exact if_pos hdue

theorem State.visit_online_poll (hstate : c.state = .online) (hdue : ¬ c.selectDue = true) :
    s.visit r c = s.visitOnlinePoll r c := by
  unfold State.visit
  rw [hstate]
  exact if_neg hdue

theorem State.visit_offline (hstate : c.state = .offline) : s.visit r c = s.visitOffline r c := by
  unfold State.visit
  rw [hstate]

theorem State.visitOnlinePoll_of_pollActive (hpoll : c.pollActive = true) :
    s.visitOnlinePoll r c = (s.setChannel r { c with preSelected := false }).post .jumpState .poll :=
  if_pos hpoll

theorem State.visitOnlinePoll_of_elapsed (hpoll : c.pollActive = false) (h : c.resync.Elapsed s.tickCount) :
    s.visitOnlinePoll r c =
      (s.setChannel r
        { c with preSelected := false, resync := armTimer s.tickCount s.params.tResyncOnline }).post
        .jumpState .poll := by
  unfold State.visitOnlinePoll
  rw [if_neg (by simp [hpoll]), if_pos (Timer.expired_eq_true h)]

theorem State.visitOnlinePoll_of_not_elapsed (hpoll : c.pollActive = false) (h : ¬ c.resync.Elapsed s.tickCount) :
    s.visitOnlinePoll r c = (s.setChannel r { c with preSelected := false }).post .jumpState .idle := by
  unfold State.visitOnlinePoll
  rw [if_neg (by simp [hpoll]), if_neg (by simp [Timer.expired_eq_false h])]

theorem State.visitOffline_of_elapsed (h : c.resync.Elapsed s.tickCount) :
    s.visitOffline r c =
      (s.setChannel r { c with resync := armTimer s.tickCount s.params.tResyncOffline }).post .jumpState .poll :=
  if_pos (Timer.expired_eq_true h)

theorem State.visitOffline_of_not_elapsed (h : ¬ c.resync.Elapsed s.tickCount) :
    s.visitOffline r c = s.post .jumpState .idle :=
  if_neg (by simp [Timer.expired_eq_false h])

/-! ## The tick -/

/-- A master's jump to IDLE runs the scheduler (R240). -/
theorem exec_tick_schedule (hrole : s.role = .master) (hdue : s.PendingDue .jumpState) (hnext : s.nextState = .idle) :
    exec .tick s = .next s.tickJump.schedule := by
  rw [exec_tick_jump_idle hdue hnext, State.handle_of_masterIdle (s := s.tickJump) hrole hnext]
  rfl

/-- Settles O29: the scheduler posts IDLE or visits the channel the round robin names, and each branch of the visit is
one of the cases. -/
theorem masterSchedulerVisitsOneChannel : Obligations.MasterSchedulerVisitsOneChannel := by
  intro s hrole hdue hnext
  have htick := exec_tick_schedule hrole hdue hnext
  refine ⟨fun hnone => ?none, fun r c hr hc => ?visit⟩
  case none => rw [htick, State.schedule_of_no_channel (s := s.tickJump) hnone]; rfl
  case visit =>
    rw [State.schedule_of_next (s := s.tickJump) hr hc] at htick
    refine ⟨fun hinit => ?init, fun honline hqueue hactive hturn => ?select, fun honline hnot => ?online,
      fun hoffline helapsed => ?retry, fun hoffline helapsed => ?skip⟩
    case init => rw [htick, State.visit_init hinit]; rfl
    case select =>
      rw [htick, State.visit_online_select honline (Channel.selectDue_iff.mpr ⟨hqueue, hactive, hturn⟩)]; rfl
    case retry =>
      rw [htick, State.visit_offline hoffline, State.visitOffline_of_elapsed]
      · rfl
      · exact helapsed
    case skip =>
      rw [htick, State.visit_offline hoffline, State.visitOffline_of_not_elapsed]
      · rfl
      · exact helapsed
    case online =>
      rw [State.visit_online_poll honline (Channel.not_selectDue_iff.mpr hnot)] at htick
      refine ⟨fun hpoll => ?poll, fun hpoll helapsed => ?resync, fun hpoll helapsed => ?wait⟩
      case poll => rw [htick, State.visitOnlinePoll_of_pollActive hpoll]; rfl
      case resync =>
        rw [htick, State.visitOnlinePoll_of_elapsed hpoll]
        · rfl
        · exact helapsed
      case wait =>
        rw [htick, State.visitOnlinePoll_of_not_elapsed hpoll]
        · rfl
        · exact helapsed

end Sys2Proof.Machine
end

/-! # POLL (44_master.md R246 to R255) -/

section
namespace Sys2Proof.Machine

variable {s : State} {c : Channel}

/-- Settles O30: the entry hook, and the arms of the POLL handler that send or await an echo. -/
theorem masterPollTransmits : Obligations.MasterPollTransmits := by
  intro s hrole
  refine ⟨fun c hdue hnext hcur hc => ?entry, fun hcur hsub hdue => ?send, fun hcur hsub hdue => ?echo,
    fun hcur hsub hdue => ?reply⟩
  case entry =>
    rw [exec_tick_jump_enter hdue (.inl hnext) (hnext ▸ hcur), hnext,
      State.entryHook_poll_of_master (s := s.tickJump) hrole, masterPollEntry_eq (s := s.tickJump) hc]
    rfl
  case send =>
    rw [exec_tick_timeout_handle hdue, State.handle_of_masterPoll (s := s.tickTimeout) hrole hcur,
      masterPoll_sendDelay_timeout (s := s.tickTimeout) hsub]
    rfl
  case echo =>
    rw [exec_tick_echo_handle hdue, State.handle_of_masterPoll (s := s.tickEcho) hrole hcur,
      masterPoll_sendWait_loopback (s := s.tickEcho) hsub]
    rfl
  case reply =>
    rw [exec_tick_timeout_handle hdue, State.handle_of_masterPoll (s := s.tickTimeout) hrole hcur,
      masterPoll_sendAckDelay_timeout (s := s.tickTimeout) hsub]
    rfl

/-- Settles O31: both sub-states count the poll by the same rule; `n` is the saturated count. -/
theorem masterCountsAnUnansweredPoll : Obligations.MasterCountsAnUnansweredPoll := by
  intro s c n hrole hcur hdue hsub hc hn
  obtain rfl : n = satInc8 c.notRespond := BitVec.eq_of_toNat_eq (hn.trans (satInc8_toNat _).symm)
  have htick : exec .tick s =
      .next ((s.tickTimeout.setChannel s.curIndex (s.tickTimeout.unansweredChannel c)).post .jumpState .idle) := by
    rw [exec_tick_timeout_handle hdue, State.handle_of_masterPoll (s := s.tickTimeout) hrole hcur,
      masterPoll_wait_timeout (s := s.tickTimeout) hsub, masterPollUnanswered_eq (s := s.tickTimeout) hc]
    rfl
  refine ⟨fun hlt => ?counted, fun hle => ?offline⟩
  case counted => rw [htick, State.unansweredChannel_of_lt hlt]; rfl
  case offline => rw [htick, State.unansweredChannel_of_le hle]; rfl

/-- A frame that reaches a master in REPLY_WAIT. -/
theorem exec_tick_masterPollFrame {k : FrameKind} {p : Packet} (hrole : s.role = .master) (hcur : s.curState = .poll)
    (hsub : s.pollSub = .replyWait) (hdue : s.ReceiveDue k p) :
    exec .tick s = .next (masterPollFrame (s.tickFrame k p)) := by
  rw [exec_tick_frame_handle hdue, State.handle_of_masterPoll (s := s.tickFrame k p) hrole hcur,
    masterPoll_replyWait_frame (s := s.tickFrame k p) hsub]

/-- Settles O32: the EOT arm and the ERROR arm of REPLY_WAIT. -/
theorem masterTakesAnEotOrADamagedFrame : Obligations.MasterTakesAnEotOrADamagedFrame := by
  intro s p hrole hcur hsub
  refine ⟨fun c hdue hc => ?eot, fun hdue => ?error⟩
  case eot =>
    rw [exec_tick_masterPollFrame hrole hcur hsub hdue, masterPollFrame_eot rfl,
      masterPollEot_eq (s := s.tickFrame .eot p) hc,
      State.answeredChannel_of_master (s := s.tickFrame .eot p) hrole]
    rfl
  case error =>
    rw [exec_tick_masterPollFrame hrole hcur hsub hdue, masterPollFrame_error rfl]
    rfl

/-! ## A RESPOND (R251, R252, R256) -/

theorem masterPollRespond_of_room (hc : s.channel s.curIndex = some c)
    (haddr : addrOk c.address s.rxPacket.address = true) (hroom : c.inq.items.length ≠ c.inq.cap.toNat) :
    masterPollRespond s =
      { State.prepareReply
          (s.setChannel s.curIndex
            { s.answeredChannel c with inq := { c.inq with items := c.inq.items ++ [s.rxPacket] } }) .ack with
        pollSub := .sendAckDelay } := by
  rw [masterPollRespond, State.onChannel_some _ hc, if_pos haddr, Queue.put_eq_some.mpr ⟨hroom, rfl⟩]

theorem masterPollRespond_of_full (hc : s.channel s.curIndex = some c)
    (haddr : addrOk c.address s.rxPacket.address = true) (hfull : c.inq.items.length = c.inq.cap.toNat) :
    masterPollRespond s =
      { State.prepareReply (s.setChannel s.curIndex (s.answeredChannel c)) .ack with
        pollSub := .sendAckDelay, overrunCount := inc32 s.overrunCount } := by
  rw [masterPollRespond, State.onChannel_some _ hc, if_pos haddr, Queue.put_eq_none.mpr hfull]

theorem masterPollRespond_of_foreign (hc : s.channel s.curIndex = some c)
    (haddr : addrOk c.address s.rxPacket.address = false) : masterPollRespond s = s := by
  rw [masterPollRespond, State.onChannel_some _ hc, if_neg (by simp [haddr])]

/-- Settles O33: the three outcomes of a RESPOND. -/
theorem masterTakesARespond : Obligations.MasterTakesARespond := by
  rintro s c _ p hrole hcur hsub hdue hc rfl
  have htick := exec_tick_masterPollFrame hrole hcur hsub hdue
  rw [masterPollFrame_respond rfl] at htick
  have hanswered := State.answeredChannel_of_master (s := s.tickFrame .respond p) (c := c) hrole
  refine ⟨fun haddr hroom => ?queued, fun haddr hfull => ?dropped, fun haddr => ?foreign⟩
  case queued => rw [htick, masterPollRespond_of_room (s := s.tickFrame .respond p) hc haddr hroom, hanswered]; rfl
  case dropped => rw [htick, masterPollRespond_of_full (s := s.tickFrame .respond p) hc haddr hfull, hanswered]; rfl
  case foreign => rw [htick, masterPollRespond_of_foreign (s := s.tickFrame .respond p) hc haddr]

end Sys2Proof.Machine
end

/-! # SELECT (44_master.md R258 to R264) -/

section
namespace Sys2Proof.Machine

variable {s : State} {c : Channel}

/-! ## The entry -/

/-- A frame loaded and sent at once: the bytes that go out are the encoding of the frame. -/
theorem State.sendFrame_loadTx (f : Frame) (hbuf : s.txBuf.wf = true)
    (hlen : (encodeFrame s.params f).length ≤ maxFrame) :
    (s.loadTx f).sendFrame =
      { s.loadTx f with
        actions := s.actions ++ [.txMode, .transmit (encodeFrame s.params f)], loopbackPending := true } := by
  have hmax : maxFrame = 256 := rfl
  have htxLen : (s.loadTx f).txLen.toNat = (encodeFrame s.params f).length := by
    rw [State.loadTx_txLen, BitVec.toNat_ofNat, Nat.mod_eq_of_lt (by omega)]
  have hframe : (s.loadTx f).txFrame = encodeFrame s.params f := by
    rw [State.txFrame, htxLen, State.loadTx_txBuf, Buffer.front_writeFrom hbuf _ hlen]
  rw [← hframe]
  rfl

theorem encodeFrame_select (p : Params) (q : Packet) : encodeFrame p (.select q) = selectBytes p q :=
  (selectBytes_eq p q).symm

theorem masterSelectEntry_of_get {q : Packet} {rest : Queue} (hc : s.channel s.curIndex = some c)
    (hget : c.outq.get = some (q, rest)) :
    masterSelectEntry s =
      { State.armStateTimer
          (State.sendFrame
            (State.loadTx { s.setChannel s.curIndex { c with outq := rest, retry := 0x00#8 } with txPacket := q }
              (.select q)))
          s.params.tLoopback with
        selectSub := .sendWaitOrReceiveWait } := by
  rw [masterSelectEntry, State.onChannel_some _ hc, hget]

theorem masterSelectEntry_of_cons {q : Packet} {rest : List Packet} (hc : s.channel s.curIndex = some c)
    (hqueue : c.outq.items = q :: rest) (hpayload : q.payload.length ≤ 50) (hbuf : s.txBuf.wf = true) :
    masterSelectEntry s =
      { s.setChannel s.curIndex { c with outq := { c.outq with items := rest }, retry := 0#8 } with
        txPacket := q, txBuf := s.txBuf.writeFrom 0 (selectBytes s.params q),
        txLen := BitVec.ofNat 9 (q.payload.length + 6),
        actions := s.actions ++ [.txMode, .transmit (selectBytes s.params q)], loopbackPending := true,
        stateTimer := armTimer s.tickCount s.params.tLoopback, selectSub := .sendWaitOrReceiveWait } := by
  have hget : c.outq.get = some (q, { c.outq with items := rest }) := Queue.get_eq_some.mpr ⟨hqueue, rfl⟩
  have hlen : (encodeFrame s.params (.select q)).length = q.payload.length + 6 := by
    rw [encodeFrame_select, length_selectBytes]
  have hfits : (encodeFrame s.params (.select q)).length ≤ maxFrame := by
    rw [hlen, maxFrame]
    omega
  rw [masterSelectEntry_of_get hc hget, State.sendFrame_loadTx, ← encodeFrame_select, ← hlen]
  · rfl
  · exact hbuf
  · exact hfits

theorem masterSelectEntry_of_nil (hc : s.channel s.curIndex = some c) (hqueue : c.outq.items = []) :
    masterSelectEntry s = s.post .jumpState .idle := by
  rw [masterSelectEntry, State.onChannel_some _ hc, Queue.get_eq_none.mpr hqueue]

/-- Settles O34: the entry hook with a packet to send, and with none. -/
theorem masterSelectEntryTransmits : Obligations.MasterSelectEntryTransmits := by
  intro s c hrole hdue hnext hcur hc
  have htick := exec_tick_jump_enter hdue (.inr hnext) (hnext ▸ hcur)
  rw [hnext, State.entryHook_select_of_master (s := s.tickJump) hrole] at htick
  refine ⟨fun q rest hqueue hpayload hbuf => ?sent, fun hqueue => ?empty⟩
  case sent => rw [htick, masterSelectEntry_of_cons (s := s.tickJump) hc hqueue hpayload hbuf]; rfl
  case empty => rw [htick, masterSelectEntry_of_nil (s := s.tickJump) hc hqueue]; rfl

/-! ## The exchange -/

/-- A frame that reaches a master in REPLY_ACK_WAIT. -/
theorem exec_tick_masterSelectFrame {k : FrameKind} {p : Packet} (hrole : s.role = .master)
    (hcur : s.curState = .select) (hsub : s.selectSub = .replyAckWaitOrSendAckDelay) (hdue : s.ReceiveDue k p) :
    exec .tick s = .next (masterSelectFrame (s.tickFrame k p)) := by
  rw [exec_tick_frame_handle hdue, State.handle_of_masterSelect (s := s.tickFrame k p) hrole hcur,
    masterSelect_replyWait_frame (s := s.tickFrame k p) hsub]

/-- Settles O35: the arms of the SELECT handler other than that of the NACK. -/
theorem masterSelectEnds : Obligations.MasterSelectEnds := by
  intro s hrole hcur
  refine ⟨fun hdue hsub => ?echo, fun p hdue hsub => ?ack, fun hdue => ?timeout⟩
  case echo =>
    rw [exec_tick_echo_handle hdue, State.handle_of_masterSelect (s := s.tickEcho) hrole hcur,
      masterSelect_sendWait_loopback (s := s.tickEcho) hsub]
    rfl
  case ack =>
    rw [exec_tick_masterSelectFrame hrole hcur hsub hdue, masterSelectFrame_ack rfl]
    rfl
  case timeout =>
    rw [exec_tick_timeout_handle hdue, State.handle_of_masterSelect (s := s.tickTimeout) hrole hcur,
      masterSelect_timeout]
    rfl

theorem masterSelectNack_of_lt (hc : s.channel s.curIndex = some c) (hretry : c.retry < maxRetry) :
    masterSelectNack s =
      { State.armStateTimer
          (State.sendFrame
            { s.setChannel s.curIndex { c with retry := c.retry + 1#8 } with errCount := inc32 s.errCount })
          s.params.tLoopback with
        selectSub := .sendWaitOrReceiveWait } := by
  rw [masterSelectNack, State.onChannel_some _ hc, if_pos hretry]

theorem masterSelectNack_of_not_lt (hc : s.channel s.curIndex = some c) (hretry : ¬ c.retry < maxRetry) :
    masterSelectNack s = State.post { s with errCount := inc32 s.errCount } .jumpState .idle := by
  rw [masterSelectNack, State.onChannel_some _ hc, if_neg hretry]

/-- Settles O36: the NACK arm, below the retry limit and at it. -/
theorem masterSelectRetriesOnNack : Obligations.MasterSelectRetriesOnNack := by
  intro s c p hrole hcur hsub hdue hc
  have htick := exec_tick_masterSelectFrame hrole hcur hsub hdue
  rw [masterSelectFrame_nack rfl] at htick
  refine ⟨fun hretry => ?again, fun hretry => ?up⟩
  case again => rw [htick, masterSelectNack_of_lt (s := s.tickFrame .nack p) hc (BitVec.lt_def.mpr hretry)]; rfl
  case up =>
    have hlimit : ¬ c.retry < maxRetry := mt BitVec.lt_def.mp (Nat.not_lt.mpr hretry)
    rw [htick, masterSelectNack_of_not_lt (s := s.tickFrame .nack p) hc hlimit]
    rfl

end Sys2Proof.Machine
end

/-! # What the master ignores (44_master.md R245, R256, R263) -/

section
namespace Sys2Proof.Machine

variable {s : State}

/-- A master takes an echo only where it awaits that of its POLL or SELECT (R248, R259). -/
theorem State.handle_loopback_of_master (hrole : s.role = .master)
    (hpoll : ¬ (s.curState = .poll ∧ s.pollSub = .sendWait))
    (hselect : ¬ (s.curState = .select ∧ s.selectSub = .sendWaitOrReceiveWait)) : s.handle .loopback = s := by
  cases hcur : s.curState with
  | init => exact State.handle_of_init hcur (by decide)
  | idle => rw [State.handle_of_masterIdle hrole hcur, masterIdle_ignored (by decide)]
  | poll => rw [State.handle_of_masterPoll hrole hcur, masterPoll_loopback_ignored fun hsub => hpoll ⟨hcur, hsub⟩]
  | select =>
    rw [State.handle_of_masterSelect hrole hcur, masterSelect_loopback_ignored fun hsub => hselect ⟨hcur, hsub⟩]

/-- A master takes a frame only where it awaits a reply of that kind (R250 to R253, R260, R262). -/
theorem State.handle_frame_of_master (hrole : s.role = .master)
    (hpoll : ¬ (s.curState = .poll ∧ s.pollSub = .replyWait ∧
      (s.rxKind = .eot ∨ s.rxKind = .respond ∨ s.rxKind = .error)))
    (hselect : ¬ (s.curState = .select ∧ s.selectSub = .replyAckWaitOrSendAckDelay ∧
      (s.rxKind = .ack ∨ s.rxKind = .nack))) : s.handle .frame = s := by
  cases hcur : s.curState with
  | init => exact State.handle_of_init hcur (by decide)
  | idle => rw [State.handle_of_masterIdle hrole hcur, masterIdle_ignored (by decide)]
  | poll => rw [State.handle_of_masterPoll hrole hcur, masterPoll_frame_ignored fun h => hpoll ⟨hcur, h⟩]
  | select => rw [State.handle_of_masterSelect hrole hcur, masterSelect_frame_ignored fun h => hselect ⟨hcur, h⟩]

/-- Settles O37: an echo and a frame by the top state, a TIMEOUT in INIT and in IDLE, and a jump to where the master
is. -/
theorem masterIgnoresEveryOtherEvent : Obligations.MasterIgnoresEveryOtherEvent := by
  intro s hrole
  refine ⟨fun hdue hpoll hselect => ?echo, fun k p hdue hpoll hselect => ?frame, fun hdue hcur => ?timeout,
    fun hdue hstay hcur => ?jump⟩
  case echo =>
    rw [exec_tick_echo_handle hdue, State.handle_loopback_of_master (s := s.tickEcho) hrole hpoll hselect]
  case frame =>
    rw [exec_tick_frame_handle hdue, State.handle_frame_of_master (s := s.tickFrame k p) hrole hpoll hselect]
  case timeout =>
    rw [exec_tick_timeout_handle hdue]
    rcases hcur with hinit | hidle
    · rw [State.handle_of_init (s := s.tickTimeout) hinit (by decide)]
    · rw [State.handle_of_masterIdle (s := s.tickTimeout) hrole hidle, masterIdle_ignored (by decide)]
  case jump =>
    rw [exec_tick_pending hdue, dispatch_jump_here hstay, State.handle_jump (s := s.tickPending) hcur]

end Sys2Proof.Machine
end

/-! Proofs of the statements about the slave (spec/45_slave.md): IDLE, SELECT, POLL, and the events it ignores. -/

/-! # The hooks and handlers of the slave, case by case -/

section
namespace Sys2Proof.Machine

variable {s : State} {c : Channel}

/-! ## By the top state -/

theorem State.handle_of_slaveIdle {ev : Event} (hrole : s.role = .slave) (hcur : s.curState = .idle) :
    s.handle ev = slaveIdle s ev := by
  unfold State.handle
  rw [hcur, hrole]

theorem State.handle_of_slavePoll {ev : Event} (hrole : s.role = .slave) (hcur : s.curState = .poll) :
    s.handle ev = slavePoll s ev := by
  unfold State.handle
  rw [hcur, hrole]

theorem State.handle_of_slaveSelect {ev : Event} (hrole : s.role = .slave) (hcur : s.curState = .select) :
    s.handle ev = slaveSelect s ev := by
  unfold State.handle
  rw [hcur, hrole]

theorem State.entryHook_poll_of_slave (hrole : s.role = .slave) : s.entryHook .poll = slavePollEntry s := by
  unfold State.entryHook
  rw [hrole]

theorem State.entryHook_select_of_slave (hrole : s.role = .slave) : s.entryHook .select = slaveSelectEntry s := by
  unfold State.entryHook
  rw [hrole]

/-! ## By the sub-state -/

theorem slaveSelect_receiveWait_frame (hsub : s.selectSub = .sendWaitOrReceiveWait) :
    slaveSelect s .frame = slaveSelectFrame s := by
  unfold slaveSelect
  rw [hsub]

theorem slaveSelect_receiveWait_timeout (hsub : s.selectSub = .sendWaitOrReceiveWait) :
    slaveSelect s .timeout = slaveSelectDeadline s := by
  unfold slaveSelect
  rw [hsub]

theorem slaveSelect_sendAckDelay_timeout (hsub : s.selectSub = .replyAckWaitOrSendAckDelay) :
    slaveSelect s .timeout = slaveSelectReply s := by
  unfold slaveSelect
  rw [hsub]

/-- After either delay the prepared frame goes out by the same rule (45_slave.md R294, R301). -/
theorem slavePoll_delay_timeout (hsub : s.pollSub = .sendDelay ∨ s.pollSub = .sendAckDelay) :
    slavePoll s .timeout = slavePollSend s := by
  unfold slavePoll
  rcases hsub with hsub | hsub <;> rw [hsub]

theorem slavePoll_sendWait_loopback (hsub : s.pollSub = .sendWait) : slavePoll s .loopback = slavePollEcho s := by
  unfold slavePoll
  rw [hsub]

theorem slavePoll_sendWait_timeout (hsub : s.pollSub = .sendWait) : slavePoll s .timeout = slavePollAbort s := by
  unfold slavePoll
  rw [hsub]

theorem slavePoll_replyWait_frame (hsub : s.pollSub = .replyWait) : slavePoll s .frame = slavePollFrame s := by
  unfold slavePoll
  rw [hsub]

theorem slavePoll_replyWait_timeout (hsub : s.pollSub = .replyWait) : slavePoll s .timeout = slavePollTimeout s := by
  unfold slavePoll
  rw [hsub]

/-! ## By the kind of the frame -/

theorem slaveSelectFrame_poll (hkind : s.rxKind = .poll) : slaveSelectFrame s = slaveSelectPoll s := by
  unfold slaveSelectFrame
  rw [hkind]

theorem slaveSelectFrame_select (hkind : s.rxKind = .select) : slaveSelectFrame s = slaveSelectData s := by
  unfold slaveSelectFrame
  rw [hkind]

theorem slaveSelectFrame_error (hkind : s.rxKind = .error) : slaveSelectFrame s = slaveSelectError s := by
  unfold slaveSelectFrame
  rw [hkind]

theorem slavePollFrame_ack (hkind : s.rxKind = .ack) : slavePollFrame s = slavePollAck s := by
  unfold slavePollFrame
  rw [hkind]

theorem slavePollFrame_nack (hkind : s.rxKind = .nack) : slavePollFrame s = slavePollNack s := by
  unfold slavePollFrame
  rw [hkind]

/-- A frame that opens another exchange, or another slave's RESPOND, breaks this one off (45_slave.md R299). -/
theorem slavePollFrame_abort (hkind : s.rxKind = .poll ∨ s.rxKind = .select ∨ s.rxKind = .respond) :
    slavePollFrame s = slavePollAbort s := by
  unfold slavePollFrame
  rcases hkind with hkind | hkind | hkind <;> rw [hkind]

/-! ## What no rule names (45_slave.md R280, R291, R303) -/

/-- Every event but a jump is ignored in IDLE. -/
theorem slaveIdle_ignored {ev : Event} (hev : ev ≠ .jumpState) : slaveIdle s ev = s := by
  cases ev with
  | jumpState => exact absurd rfl hev
  | none | frame | loopback | init | timeout => rfl

/-- No rule of SELECT names an echo (R291): the slave waits for the master while its reply is on the line. -/
theorem slaveSelect_loopback_ignored : slaveSelect s .loopback = s := by
  unfold slaveSelect
  cases s.selectSub <;> rfl

theorem slaveSelectFrame_ignored (hkind : ¬ (s.rxKind = .poll ∨ s.rxKind = .select ∨ s.rxKind = .error)) :
    slaveSelectFrame s = s := by
  unfold slaveSelectFrame
  cases hk : s.rxKind with
  | poll => exact absurd (.inl hk) hkind
  | select => exact absurd (.inr (.inl hk)) hkind
  | error => exact absurd (.inr (.inr hk)) hkind
  | none | eot | ack | nack | respond => rfl

theorem slaveSelect_frame_ignored
    (h : ¬ (s.selectSub = .sendWaitOrReceiveWait ∧
      (s.rxKind = .poll ∨ s.rxKind = .select ∨ s.rxKind = .error))) : slaveSelect s .frame = s := by
  cases hs : s.selectSub with
  | sendWaitOrReceiveWait =>
    rw [slaveSelect_receiveWait_frame hs, slaveSelectFrame_ignored fun hkind => h ⟨hs, hkind⟩]
  | replyAckWaitOrSendAckDelay =>
    unfold slaveSelect
    rw [hs]

theorem slavePoll_loopback_ignored (hsub : s.pollSub ≠ .sendWait) : slavePoll s .loopback = s := by
  unfold slavePoll
  cases hs : s.pollSub with
  | sendWait => exact absurd hs hsub
  | sendDelay | replyWait | sendAckDelay => rfl

theorem slavePollFrame_ignored
    (hkind : ¬ (s.rxKind = .ack ∨ s.rxKind = .nack ∨ s.rxKind = .poll ∨ s.rxKind = .select ∨ s.rxKind = .respond)) :
    slavePollFrame s = s := by
  unfold slavePollFrame
  cases hk : s.rxKind with
  | ack => exact absurd (.inl hk) hkind
  | nack => exact absurd (.inr (.inl hk)) hkind
  | poll => exact absurd (.inr (.inr (.inl hk))) hkind
  | select => exact absurd (.inr (.inr (.inr (.inl hk)))) hkind
  | respond => exact absurd (.inr (.inr (.inr (.inr hk)))) hkind
  | none | eot | error => rfl

theorem slavePoll_frame_ignored
    (h : ¬ (s.pollSub = .replyWait ∧
      (s.rxKind = .ack ∨ s.rxKind = .nack ∨ s.rxKind = .poll ∨ s.rxKind = .select ∨ s.rxKind = .respond))) :
    slavePoll s .frame = s := by
  cases hs : s.pollSub with
  | replyWait => rw [slavePoll_replyWait_frame hs, slavePollFrame_ignored fun hkind => h ⟨hs, hkind⟩]
  | sendDelay | sendWait | sendAckDelay =>
    unfold slavePoll
    rw [hs]

/-! ## The mirrored deadline (45_slave.md R282) -/

theorem State.mirror_eq (hc : s.channel 0 = some c) :
    s.mirror =
      { s with
        stateTimer := if c.state ≠ .offline ∧ c.resync.armed = true then c.resync else s.stateTimer.disarm } := by
  rw [State.mirror, State.onChannel_some _ hc]
  split <;> rfl

theorem slaveSelectEntry_eq (hc : s.channel 0 = some c) :
    slaveSelectEntry s =
      { s with
        selectSub := .sendWaitOrReceiveWait,
        stateTimer := if c.state ≠ .offline ∧ c.resync.armed = true then c.resync else s.stateTimer.disarm } :=
  State.mirror_eq (s := { s with selectSub := .sendWaitOrReceiveWait }) hc

theorem slaveSelectReply_eq (hc : s.channel 0 = some c) :
    slaveSelectReply s =
      { s.sendFrame with
        selectSub := .sendWaitOrReceiveWait,
        stateTimer := if c.state ≠ .offline ∧ c.resync.armed = true then c.resync else s.stateTimer.disarm } :=
  State.mirror_eq (s := { s.sendFrame with selectSub := .sendWaitOrReceiveWait }) hc

/-- The exit hook ran or not: disarmed, the state timer is the same. -/
theorem State.tickJump_stateTimer_disarm : s.tickJump.stateTimer.disarm = { s.stateTimer with armed := false } := by
  unfold State.tickJump
  dsimp only
  split <;> rfl

end Sys2Proof.Machine
end

/-! # IDLE and the entry into SELECT (45_slave.md R280, R282) -/

section
namespace Sys2Proof.Machine

variable {s : State} {c : Channel}

theorem slaveIdleJump_of_none (hc : s.channel 0 = none) : slaveIdleJump s = s.post .jumpState .idle := by
  unfold slaveIdleJump
  rw [hc]

theorem slaveIdleJump_of_some (hc : s.channel 0 = some c) :
    slaveIdleJump s =
      State.post
        { s.setChannel 0 { c with resync := armTimer s.tickCount s.params.tResyncOnline } with
          curIndex := 0, curValid := true }
        .jumpState .select := by
  unfold slaveIdleJump
  rw [hc]

/-- A slave's jump to IDLE looks for slot 0. -/
theorem exec_tick_slaveIdleJump (hrole : s.role = .slave) (hdue : s.PendingDue .jumpState)
    (hnext : s.nextState = .idle) : exec .tick s = .next (slaveIdleJump s.tickJump) := by
  rw [exec_tick_jump_idle hdue hnext, State.handle_of_slaveIdle (s := s.tickJump) hrole hnext]
  rfl

/-- Settles O38: the two outcomes of the look for slot 0, and the entry hook of SELECT. -/
theorem slaveGoesToSelect : Obligations.SlaveGoesToSelect := by
  intro s hrole hdue
  refine ⟨fun hnext hc => ?waits, fun c hnext hc => ?posted, fun c hnext hcur hc => ?entered⟩
  case waits => rw [exec_tick_slaveIdleJump hrole hdue hnext, slaveIdleJump_of_none (s := s.tickJump) hc]; rfl
  case posted => rw [exec_tick_slaveIdleJump hrole hdue hnext, slaveIdleJump_of_some (s := s.tickJump) hc]; rfl
  case entered =>
    rw [exec_tick_jump_enter hdue (.inr hnext) (hnext ▸ hcur), hnext,
      State.entryHook_select_of_slave (s := s.tickJump) hrole, slaveSelectEntry_eq (s := s.tickJump) hc,
      State.tickJump_stateTimer_disarm]

end Sys2Proof.Machine
end

/-! # SELECT (45_slave.md R283 to R290) -/

section
namespace Sys2Proof.Machine

variable {s : State} {c : Channel}

/-- A frame that reaches a slave in RECEIVE_WAIT. -/
theorem exec_tick_slaveSelectFrame {k : FrameKind} {p : Packet} (hrole : s.role = .slave)
    (hcur : s.curState = .select) (hsub : s.selectSub = .sendWaitOrReceiveWait) (hdue : s.ReceiveDue k p) :
    exec .tick s = .next (slaveSelectFrame (s.tickFrame k p)) := by
  rw [exec_tick_frame_handle hdue, State.handle_of_slaveSelect (s := s.tickFrame k p) hrole hcur,
    slaveSelect_receiveWait_frame (s := s.tickFrame k p) hsub]

/-! ## A POLL or a damaged frame (R283, R284, R288) -/

theorem State.mustAnswer_eq_true :
    s.mustAnswer = true ↔
      addrOk s.stationAddress s.rxPacket.address = true ∧ isReply s.stationAddress s.rxPacket.address = true := by
  simp [State.mustAnswer]

theorem State.not_mustAnswer :
    ¬ s.mustAnswer = true ↔
      addrOk s.stationAddress s.rxPacket.address = false ∨ isReply s.stationAddress s.rxPacket.address = false := by
  simp [State.mustAnswer_eq_true, imp_iff_not_or]

theorem slaveSelectPoll_of_mustAnswer (hc : s.channel 0 = some c) (hmust : s.mustAnswer = true) :
    slaveSelectPoll s =
      (s.setChannel 0 { c with state := .online, resync := armTimer s.tickCount s.params.tResyncOnline }).post
        .jumpState .poll := by
  rw [slaveSelectPoll, if_pos hmust, State.onChannel_some _ hc, State.transition_frame]

theorem slaveSelectPoll_observed (hmust : ¬ s.mustAnswer = true) : slaveSelectPoll s = s := if_neg hmust

theorem slaveSelectError_of_mustAnswer (hmust : s.mustAnswer = true) :
    slaveSelectError s = { s.prepareReply .nack with selectSub := .replyAckWaitOrSendAckDelay } :=
  if_pos hmust

theorem slaveSelectError_ignored (hmust : ¬ s.mustAnswer = true) : slaveSelectError s = s := if_neg hmust

/-- Settles O39: the POLL arm and the ERROR arm of RECEIVE_WAIT, each with the address test passed and failed. -/
theorem slaveAnswersItsOwnPollOrDamagedFrame : Obligations.SlaveAnswersItsOwnPollOrDamagedFrame := by
  intro s p hrole hcur hsub
  refine ⟨fun c hdue hc haddr hreply => ?poll, fun hdue haddr hreply => ?error,
    fun k hk hdue hforeign => ?foreign⟩
  case poll =>
    rw [exec_tick_slaveSelectFrame hrole hcur hsub hdue, slaveSelectFrame_poll rfl,
      slaveSelectPoll_of_mustAnswer (s := s.tickFrame .poll p) hc (State.mustAnswer_eq_true.mpr ⟨haddr, hreply⟩)]
    rfl
  case error =>
    rw [exec_tick_slaveSelectFrame hrole hcur hsub hdue, slaveSelectFrame_error rfl,
      slaveSelectError_of_mustAnswer (s := s.tickFrame .error p) (State.mustAnswer_eq_true.mpr ⟨haddr, hreply⟩)]
    rfl
  case foreign =>
    have hmust : ¬ (s.tickFrame k p).mustAnswer = true := State.not_mustAnswer.mpr hforeign
    rw [exec_tick_slaveSelectFrame hrole hcur hsub hdue]
    rcases hk with rfl | rfl
    · rw [slaveSelectFrame_poll rfl, slaveSelectPoll_observed hmust]
    · rw [slaveSelectFrame_error rfl, slaveSelectError_ignored hmust]

/-! ## A SELECT (R285 to R287, R291) -/

/-- A SELECT for this station is queued, or dropped and counted; what is answered does not depend on which. -/
theorem slaveSelectData_of_addrOk (hc : s.channel 0 = some c)
    (haddr : addrOk s.stationAddress s.rxPacket.address = true) :
    slaveSelectData s = slaveSelectAnswer
      (if c.inq.items.length = c.inq.cap.toNat then { s with overrunCount := inc32 s.overrunCount }
        else s.setChannel 0 { c with inq := { c.inq with items := c.inq.items ++ [s.rxPacket] } }) := by
  rw [slaveSelectData, if_pos haddr, State.onChannel_some _ hc]
  by_cases hfull : c.inq.items.length = c.inq.cap.toNat
  · rw [if_pos hfull, Queue.put_eq_none.mpr hfull]
  · rw [if_neg hfull, Queue.put_eq_some.mpr ⟨hfull, rfl⟩]

theorem slaveSelectData_of_foreign (haddr : addrOk s.stationAddress s.rxPacket.address = false) :
    slaveSelectData s = s :=
  if_neg (by simp [haddr])

theorem slaveSelectAnswer_of_owed (hreply : isReply s.stationAddress s.rxPacket.address = true) :
    slaveSelectAnswer s =
      { s with
        txBuf := s.txBuf.writeFrom 0 [s.params.ccAck], txLen := 1#9,
        stateTimer := armTimer s.tickCount s.params.tAckDelay, selectSub := .replyAckWaitOrSendAckDelay } :=
  if_pos hreply

theorem slaveSelectAnswer_of_not_owed (hreply : isReply s.stationAddress s.rxPacket.address = false) :
    slaveSelectAnswer s = s :=
  if_neg (by simp [hreply])

/-- Settles O40: the outcomes for the queue are one state `u`, from which the answer is prepared or not. -/
theorem slaveTakesASelect : Obligations.SlaveTakesASelect := by
  intro s u c p hrole hcur hsub hdue hc hu
  have htick := exec_tick_slaveSelectFrame hrole hcur hsub hdue
  rw [slaveSelectFrame_select rfl] at htick
  have htaken (haddr : addrOk s.stationAddress p.address = true) : exec .tick s = .next (slaveSelectAnswer u) := by
    rw [htick, slaveSelectData_of_addrOk (s := s.tickFrame .select p) hc haddr, hu]
    rfl
  have hkept : u.stationAddress = s.stationAddress ∧ u.rxPacket = p ∧ u.params = s.params ∧ u.tickCount = s.now ∧
      u.txBuf = s.txBuf := by
    rw [hu]
    split <;> exact ⟨rfl, rfl, rfl, rfl, rfl⟩
  obtain ⟨hstation, hpacket, hparams, hnow, hbuf⟩ := hkept
  rw [← hstation, ← hpacket] at htaken ⊢
  refine ⟨fun haddr hreply => ?answered, fun haddr hreply => ?silent, fun haddr => ?foreign⟩
  case answered => rw [htaken haddr, slaveSelectAnswer_of_owed hreply, hparams, hnow, hbuf]; rfl
  case silent => rw [htaken haddr, slaveSelectAnswer_of_not_owed hreply]
  case foreign =>
    rw [hstation, hpacket] at haddr
    rw [htick, slaveSelectData_of_foreign (s := s.tickFrame .select p) haddr, hpacket]

/-! ## A TIMEOUT (R289, R290) -/

theorem slaveSelectDeadline_eq (hc : s.channel 0 = some c) :
    slaveSelectDeadline s =
      s.setChannel 0
        { c with
          state := .offline,
          resync := if c.state = .offline then c.resync else armTimer s.tickCount s.params.tResyncOffline } := by
  rw [slaveSelectDeadline, State.onChannel_some _ hc, State.transition_frame]
  rfl

/-- Settles O41: the two TIMEOUT arms of the SELECT handler. -/
theorem slaveSelectTimeouts : Obligations.SlaveSelectTimeouts := by
  intro s c hrole hcur hdue hc
  have htick := exec_tick_timeout_handle hdue
  rw [State.handle_of_slaveSelect (s := s.tickTimeout) hrole hcur] at htick
  refine ⟨fun hsub => ?deadline, fun hsub => ?reply⟩
  case deadline =>
    rw [htick, slaveSelect_receiveWait_timeout (s := s.tickTimeout) hsub,
      slaveSelectDeadline_eq (s := s.tickTimeout) hc]
    rfl
  case reply =>
    rw [htick, slaveSelect_sendAckDelay_timeout (s := s.tickTimeout) hsub,
      slaveSelectReply_eq (s := s.tickTimeout) hc]
    rfl

end Sys2Proof.Machine
end

/-! # POLL (45_slave.md R292 to R302) -/

section
namespace Sys2Proof.Machine

variable {s : State} {c : Channel}

/-! ## The entry (R292, R293) -/

theorem encodeFrame_respond (p : Params) (q : Packet) : encodeFrame p (.respond q) = respondBytes p q :=
  (respondBytes_eq p q).symm

theorem slavePollData_eq (q : Packet) (rest : Queue) :
    slavePollData s c q rest =
      { s.setChannel 0 { c with outq := rest, retry := 0#8 } with
        txPacket := q, txBuf := s.txBuf.writeFrom 0 (respondBytes s.params q),
        txLen := BitVec.ofNat 9 (q.payload.length + 5), pollSub := .sendDelay,
        stateTimer := armTimer s.tickCount s.params.tSendDelay } := by
  rw [← length_respondBytes s.params, ← encodeFrame_respond]
  rfl

theorem slavePollEntry_of_cons {q : Packet} {rest : List Packet} (hc : s.channel 0 = some c)
    (hqueue : c.outq.items = q :: rest) (hpoll : c.pollActive = true) :
    slavePollEntry s = slavePollData s c q { c.outq with items := rest } := by
  have hget : c.outq.get = some (q, { c.outq with items := rest }) := Queue.get_eq_some.mpr ⟨hqueue, rfl⟩
  rw [slavePollEntry, State.onChannel_some _ hc, if_pos hpoll, hget]

theorem slavePollEntry_of_no_data (hc : s.channel 0 = some c) (hnone : c.outq.items = [] ∨ c.pollActive = false) :
    slavePollEntry s = slavePollNoData s := by
  rw [slavePollEntry, State.onChannel_some _ hc]
  rcases hnone with hempty | hpassive
  · rw [Queue.get_eq_none.mpr hempty, ite_self]
  · rw [if_neg (by simp [hpassive])]

/-- Settles O42: the entry hook with a packet to send, and with none. -/
theorem slavePollEntryBuildsTheAnswer : Obligations.SlavePollEntryBuildsTheAnswer := by
  intro s c hrole hdue hnext hcur hc
  have htick := exec_tick_jump_enter hdue (.inl hnext) (hnext ▸ hcur)
  rw [hnext, State.entryHook_poll_of_slave (s := s.tickJump) hrole] at htick
  refine ⟨fun q rest hqueue hpoll => ?data, fun hnone => ?eot⟩
  case data => rw [htick, slavePollEntry_of_cons (s := s.tickJump) hc hqueue hpoll, slavePollData_eq]; rfl
  case eot => rw [htick, slavePollEntry_of_no_data (s := s.tickJump) hc hnone]; rfl

/-! ## Sending and the echo (R294 to R296, R301) -/

theorem slavePollEcho_of_one (hlen : s.txLen.toNat = 1) : slavePollEcho s = s.post .jumpState .select :=
  if_pos (BitVec.eq_of_toNat_eq hlen)

theorem slavePollEcho_of_long (hlen : 1 < s.txLen.toNat) :
    slavePollEcho s = { s.armStateTimer s.params.tReply with pollSub := .replyWait } := by
  have hlong : 1#9 < s.txLen := BitVec.lt_def.mpr hlen
  have hone : s.txLen ≠ 1#9 := fun h => hlen.ne' (congrArg BitVec.toNat h)
  rw [slavePollEcho, if_neg hone, if_pos hlong]

/-- An echo that a slave in POLL SEND_WAIT awaits. -/
theorem exec_tick_slavePollEcho (hrole : s.role = .slave) (hcur : s.curState = .poll) (hsub : s.pollSub = .sendWait)
    (hdue : s.EchoDue) : exec .tick s = .next (slavePollEcho s.tickEcho) := by
  rw [exec_tick_echo_handle hdue, State.handle_of_slavePoll (s := s.tickEcho) hrole hcur,
    slavePoll_sendWait_loopback (s := s.tickEcho) hsub]

/-- A TIMEOUT in POLL, whatever the sub-state. -/
theorem exec_tick_slavePoll_timeout (hrole : s.role = .slave) (hcur : s.curState = .poll) (hdue : s.TimeoutDue) :
    exec .tick s = .next (slavePoll s.tickTimeout .timeout) := by
  rw [exec_tick_timeout_handle hdue, State.handle_of_slavePoll (s := s.tickTimeout) hrole hcur]

/-- Settles O43: either delay ends in the same transmission; the length of the frame sent says what its echo means. -/
theorem slavePollTransmits : Obligations.SlavePollTransmits := by
  intro s hrole hcur
  refine ⟨fun hdue hsub => ?send, fun hdue hsub hlen => ?long, fun hdue hsub hlen => ?eot⟩
  case send =>
    rw [exec_tick_slavePoll_timeout hrole hcur hdue, slavePoll_delay_timeout (s := s.tickTimeout) hsub]
    rfl
  case long =>
    rw [exec_tick_slavePollEcho hrole hcur hsub hdue, slavePollEcho_of_long (s := s.tickEcho) hlen]
    rfl
  case eot =>
    rw [exec_tick_slavePollEcho hrole hcur hsub hdue, slavePollEcho_of_one (s := s.tickEcho) hlen]
    rfl

/-! ## The master's reply (R297, R298) -/

/-- A frame that reaches a slave in REPLY_WAIT. -/
theorem exec_tick_slavePollFrame {k : FrameKind} {p : Packet} (hrole : s.role = .slave) (hcur : s.curState = .poll)
    (hsub : s.pollSub = .replyWait) (hdue : s.ReceiveDue k p) :
    exec .tick s = .next (slavePollFrame (s.tickFrame k p)) := by
  rw [exec_tick_frame_handle hdue, State.handle_of_slavePoll (s := s.tickFrame k p) hrole hcur,
    slavePoll_replyWait_frame (s := s.tickFrame k p) hsub]

theorem slavePollAck_eq (hc : s.channel 0 = some c) :
    slavePollAck s =
      { State.prepareReply (s.setChannel 0 { c with notRespond := 0x00#8 }) .eot with pollSub := .sendAckDelay } :=
  State.onChannel_some _ hc

theorem slavePollNack_of_lt (hc : s.channel 0 = some c) (hretry : c.retry < maxRetry) :
    slavePollNack s =
      { State.armStateTimer (s.setChannel 0 { c with notRespond := 0x00#8, retry := c.retry + 1#8 })
          s.params.tSendDelay with
        pollSub := .sendDelay, errCount := inc32 s.errCount } := by
  rw [slavePollNack, State.onChannel_some _ hc, if_pos hretry]

theorem slavePollNack_of_not_lt (hc : s.channel 0 = some c) (hretry : ¬ c.retry < maxRetry) :
    slavePollNack s =
      { State.prepareReply (s.setChannel 0 { c with notRespond := 0x00#8 }) .eot with
        pollSub := .sendAckDelay, errCount := inc32 s.errCount } := by
  rw [slavePollNack, State.onChannel_some _ hc, if_neg hretry]

/-- Settles O44: the ACK arm, and the NACK arm below the retry limit and at it. -/
theorem slavePollTakesAckAndNack : Obligations.SlavePollTakesAckAndNack := by
  intro s c p hrole hcur hsub hc
  refine ⟨fun hdue => ?ack, fun hdue hretry => ?again, fun hdue hretry => ?up⟩
  case ack =>
    rw [exec_tick_slavePollFrame hrole hcur hsub hdue, slavePollFrame_ack rfl,
      slavePollAck_eq (s := s.tickFrame .ack p) hc]
    rfl
  case again =>
    rw [exec_tick_slavePollFrame hrole hcur hsub hdue, slavePollFrame_nack rfl,
      slavePollNack_of_lt (s := s.tickFrame .nack p) hc (BitVec.lt_def.mpr hretry)]
    rfl
  case up =>
    have hlimit : ¬ c.retry < maxRetry := mt BitVec.lt_def.mp (Nat.not_lt.mpr hretry)
    rw [exec_tick_slavePollFrame hrole hcur hsub hdue, slavePollFrame_nack rfl,
      slavePollNack_of_not_lt (s := s.tickFrame .nack p) hc hlimit]
    rfl

/-! ## Breaking off (R299, R300, R302) -/

theorem slavePollTimeout_eq (hc : s.channel 0 = some c) :
    slavePollTimeout s = (s.setChannel 0 { c with notRespond := satInc8 c.notRespond }).post .jumpState .select :=
  State.onChannel_some _ hc

/-- Settles O45: the arms of the POLL handler that return to SELECT; `n` is the saturated count. -/
theorem slavePollBreaksOff : Obligations.SlavePollBreaksOff := by
  intro s hrole hcur
  refine ⟨fun k p hsub hk hdue => ?frame, fun c n hsub hdue hc hn => ?unanswered, fun hsub hdue => ?noEcho⟩
  case frame =>
    rw [exec_tick_slavePollFrame hrole hcur hsub hdue, slavePollFrame_abort (s := s.tickFrame k p) hk]
    rfl
  case unanswered =>
    obtain rfl : n = satInc8 c.notRespond := BitVec.eq_of_toNat_eq (hn.trans (satInc8_toNat _).symm)
    rw [exec_tick_slavePoll_timeout hrole hcur hdue, slavePoll_replyWait_timeout (s := s.tickTimeout) hsub,
      slavePollTimeout_eq (s := s.tickTimeout) hc]
    rfl
  case noEcho =>
    rw [exec_tick_slavePoll_timeout hrole hcur hdue, slavePoll_sendWait_timeout (s := s.tickTimeout) hsub]
    rfl

end Sys2Proof.Machine
end

/-! # What the slave ignores (45_slave.md R280, R291, R303) -/

section
namespace Sys2Proof.Machine

variable {s : State}

/-- A slave takes an echo only where it awaits that of its answer to a POLL (R295, R296). -/
theorem State.handle_loopback_of_slave (hrole : s.role = .slave)
    (hpoll : ¬ (s.curState = .poll ∧ s.pollSub = .sendWait)) : s.handle .loopback = s := by
  cases hcur : s.curState with
  | init => exact State.handle_of_init hcur (by decide)
  | idle => rw [State.handle_of_slaveIdle hrole hcur, slaveIdle_ignored (by decide)]
  | poll => rw [State.handle_of_slavePoll hrole hcur, slavePoll_loopback_ignored fun hsub => hpoll ⟨hcur, hsub⟩]
  | select => rw [State.handle_of_slaveSelect hrole hcur, slaveSelect_loopback_ignored]

/-- A slave takes a frame only where it waits for the master, and only of a kind that a rule names (R283 to R288, R297
to R299). -/
theorem State.handle_frame_of_slave (hrole : s.role = .slave)
    (hselect : ¬ (s.curState = .select ∧ s.selectSub = .sendWaitOrReceiveWait ∧
      (s.rxKind = .poll ∨ s.rxKind = .select ∨ s.rxKind = .error)))
    (hpoll : ¬ (s.curState = .poll ∧ s.pollSub = .replyWait ∧
      (s.rxKind = .ack ∨ s.rxKind = .nack ∨ s.rxKind = .poll ∨ s.rxKind = .select ∨ s.rxKind = .respond))) :
    s.handle .frame = s := by
  cases hcur : s.curState with
  | init => exact State.handle_of_init hcur (by decide)
  | idle => rw [State.handle_of_slaveIdle hrole hcur, slaveIdle_ignored (by decide)]
  | poll => rw [State.handle_of_slavePoll hrole hcur, slavePoll_frame_ignored fun h => hpoll ⟨hcur, h⟩]
  | select => rw [State.handle_of_slaveSelect hrole hcur, slaveSelect_frame_ignored fun h => hselect ⟨hcur, h⟩]

/-- Settles O46: an echo and a frame by the top state, a TIMEOUT in INIT and in IDLE, and a jump to where the slave
is. -/
theorem slaveIgnoresEveryOtherEvent : Obligations.SlaveIgnoresEveryOtherEvent := by
  intro s hrole
  refine ⟨fun hdue hpoll => ?echo, fun k p hdue hselect hpoll => ?frame, fun hdue hcur => ?timeout,
    fun hdue hstay hcur => ?jump⟩
  case echo => rw [exec_tick_echo_handle hdue, State.handle_loopback_of_slave (s := s.tickEcho) hrole hpoll]
  case frame =>
    rw [exec_tick_frame_handle hdue, State.handle_frame_of_slave (s := s.tickFrame k p) hrole hselect hpoll]
  case timeout =>
    rw [exec_tick_timeout_handle hdue]
    rcases hcur with hinit | hidle
    · rw [State.handle_of_init (s := s.tickTimeout) hinit (by decide)]
    · rw [State.handle_of_slaveIdle (s := s.tickTimeout) hrole hidle, slaveIdle_ignored (by decide)]
  case jump =>
    rw [exec_tick_pending hdue, dispatch_jump_here hstay, State.handle_jump (s := s.tickPending) hcur]

end Sys2Proof.Machine
end

/-! Proofs of the statements about the host port (spec/46_host.md): the host commands, command by command, and the
direction discipline of the transport port. -/

/-! # INIT and START (46_host.md R321, R323) -/

section
namespace Sys2Proof.Machine

variable {s : State}

/-- Settles O12: the fields are those of `State.resetWith`, its buffers the empty ones. -/
theorem initResetsEverything : Obligations.InitResetsEverything :=
  fun _ _ _ => ⟨[], [], rfl⟩

theorem exec_start_stopped (h : s.running = false) :
    exec .start s = .next { s with running := true, pendingEvent := .init, reply := [] } :=
  if_neg (by simp [h])

theorem exec_start_running (h : s.running = true) : exec .start s = .next { s with reply := [] } :=
  if_pos h

/-- Settles O14: the two branches of START. -/
theorem startRunsTheBusOnce : Obligations.StartRunsTheBusOnce :=
  fun _ => ⟨exec_start_stopped, exec_start_running⟩

end Sys2Proof.Machine
end

/-! # What the host commands can do (46_host.md R334) -/

section
namespace Sys2Proof.Machine

variable {i : Instr}

/-- A host command other than INIT and START writes the slots and the reply, and nothing else. -/
theorem exec_quiet_eq (s : State) (hquiet : isQuietCommand i = true) (hstart : i ≠ .start) :
    ∃ slots r, exec i s = .next { s with channels := slots, reply := r } := by
  have answered {r : List Byte} (h : exec i s = .next (s.withReply r)) :
      ∃ slots r, exec i s = .next { s with channels := slots, reply := r } := ⟨s.channels, r, h⟩
  have written {k : Fin nCh} {c : Channel} {r : List Byte}
      (h : exec i s = .next ((s.setChannel k c).withReply r)) :
      ∃ slots r, exec i s = .next { s with channels := slots, reply := r } := ⟨_, r, h⟩
  cases i with
  | createChannel a pa sa oc ic =>
    rcases exec_createChannel_cases s a pa sa oc ic with ⟨r, h⟩ | ⟨k, r, -, -, h⟩
    · exact answered h
    · exact written h
  | start => exact absurd rfl hstart
  | send id o payload =>
    rcases exec_send_cases s id o payload with ⟨r, h⟩ | ⟨k, c, q, r, -, -, -, h⟩
    · exact answered h
    · exact written h
  | receive id =>
    rcases exec_receive_cases s id with ⟨r, h⟩ | ⟨k, c, p, q, r, -, -, h⟩
    · exact answered h
    · exact written h
  | isDataAvailable id => exact (exec_isDataAvailable_answers s id).elim fun _ => answered
  | channelState id => exact (exec_channelState_answers s id).elim fun _ => answered
  | readStatus selector => exact answered rfl
  | readChannel id selector => exact answered rfl
  | init | tick | rxByte | ack | nack | eot | poll | select | respond => exact nomatch hquiet

/-- START writes `running`, the pending event and the reply at most. -/
theorem exec_start_eq (s : State) :
    ∃ running e, exec .start s = .next { s with running := running, pendingEvent := e, reply := [] } := by
  cases h : s.running with
  | false => exact ⟨_, _, exec_start_stopped h⟩
  | true => exact ⟨s.running, s.pendingEvent, exec_start_running h⟩

/-- Settles O21: none of the fields a host command can write is one of those listed, but for the two that START
writes. -/
theorem hostCommandsLeaveTheEngineAlone : Obligations.HostCommandsLeaveTheEngineAlone := by
  intro i s hquiet
  by_cases hstart : i = .start
  · subst hstart
    obtain ⟨running, e, h⟩ := exec_start_eq s
    exact ⟨_, h, rfl, rfl, rfl, rfl, rfl, rfl, rfl, rfl, rfl, rfl, rfl, rfl, rfl, rfl, rfl, rfl, rfl, rfl, rfl, rfl,
      rfl, rfl, rfl, rfl, absurd rfl⟩
  · obtain ⟨slots, r, h⟩ := exec_quiet_eq s hquiet hstart
    exact ⟨_, h, rfl, rfl, rfl, rfl, rfl, rfl, rfl, rfl, rfl, rfl, rfl, rfl, rfl, rfl, rfl, rfl, rfl, rfl, rfl, rfl,
      rfl, rfl, rfl, rfl, fun _ => ⟨rfl, rfl⟩⟩

end Sys2Proof.Machine
end

/-! # CREATE_CHANNEL (46_host.md R322, 42_registry.md R180) -/

section
namespace Sys2Proof.Machine

variable {s : State} {i : Fin nCh}

/-- The capacities of `powersOfTwo` are the powers of two from 1 to 128 (00_scope.md R8). -/
theorem mem_powersOfTwo {c : Byte} : c ∈ powersOfTwo ↔ ∃ k, k < 8 ∧ c.toNat = 2 ^ k := by
  have hpowers : powersOfTwo = (List.range 8).map fun k => BitVec.ofNat 8 (2 ^ k) := by decide
  have hvalue : ∀ k < 8, (BitVec.ofNat 8 (2 ^ k)).toNat = 2 ^ k := by decide
  rw [hpowers, List.mem_map]
  constructor
  · rintro ⟨k, hk, rfl⟩
    exact ⟨k, List.mem_range.mp hk, hvalue k (List.mem_range.mp hk)⟩
  · rintro ⟨k, hk, hc⟩
    exact ⟨k, List.mem_range.mpr hk, BitVec.eq_of_toNat_eq ((hvalue k hk).trans hc.symm)⟩

theorem legalCapacity_iff {p : Params} {c : Byte} : legalCapacity p c = true ↔ CapacityLegal p c := by
  simp [legalCapacity, mem_powersOfTwo, BitVec.le_def]

/-- The lowest free slot is the one `create` takes (R180): the converse of `State.freeSlot_spec`. -/
theorem State.freeSlot_eq_some (hfree : s.channel i = none) (hlower : ∀ j, j < i → (s.channel j).isSome = true) :
    s.freeSlot = some i := by
  cases hslot : s.freeSlot with
  | none => simpa [hfree] using State.freeSlot_none.mp hslot i
  | some k =>
    obtain ⟨hk, hklower⟩ := State.freeSlot_spec hslot
    rcases lt_trichotomy k i with hlt | rfl | hgt
    · simpa [hk] using hlower k hlt
    · rfl
    · simpa [hfree] using hklower i hgt

theorem State.create_of_free {a : Byte} {pa sa : Bool} {oc ic : Byte} (hout : CapacityLegal s.params oc)
    (hin : CapacityLegal s.params ic) (hslot : s.freeSlot = some i) :
    s.create a pa sa oc ic = some (i, s.setChannel i (newChannel a pa sa oc ic)) := by
  simp [State.create, legalCapacity_iff.mpr hout, legalCapacity_iff.mpr hin, hslot]

/-- `create` fails for an illegal capacity and where no slot is free (R180). -/
theorem State.create_full {a : Byte} {pa sa : Bool} {oc ic : Byte}
    (h : ¬ CapacityLegal s.params oc ∨ ¬ CapacityLegal s.params ic ∨ ∀ i, (s.channel i).isSome = true) :
    s.create a pa sa oc ic = none := by
  rcases s.create_cases a pa sa oc ic with ⟨hnone, -⟩ | ⟨k, hslot, hlegal, -⟩
  · exact hnone
  · obtain ⟨hout, hin⟩ := Bool.and_eq_true_iff.mp hlegal
    rcases h with h | h | h
    · exact absurd (legalCapacity_iff.mp hout) h
    · exact absurd (legalCapacity_iff.mp hin) h
    · exact nomatch hslot.symm.trans (State.freeSlot_none.mpr h)

/-- Settles O13: what `create` answers in each case. -/
theorem createChannelTakesTheLowestFreeSlot : Obligations.CreateChannelTakesTheLowestFreeSlot := by
  intro s a pa sa oc ic
  refine ⟨fun i hout hin hfree hlower => ⟨Timer.zero, rfl, ?created⟩, fun h => ?full⟩
  case created =>
    show execCreateChannel a pa sa oc ic s = _
    rw [execCreateChannel, State.create_of_free hout hin (State.freeSlot_eq_some hfree hlower)]
    rfl
  case full =>
    show execCreateChannel a pa sa oc ic s = _
    rw [execCreateChannel, State.create_full h]
    rfl

end Sys2Proof.Machine
end

/-! # SEND, RECEIVE and the channel queries (46_host.md R324 to R329) -/

section
namespace Sys2Proof.Machine

variable {s : State} {id : Byte} {i : Fin nCh} {c : Channel}

/-- No channel exists under an `id` above the slots or of an unoccupied slot (42_registry.md R182). -/
theorem State.channelOf_eq_none (h : 32 ≤ id.toNat ∨ ∃ i : Fin nCh, id.toNat = i.val ∧ s.channel i = none) :
    s.channelOf id = none := by
  refine Option.eq_none_iff_forall_ne_some.mpr ?_
  rintro ⟨k, d⟩ hknown
  obtain ⟨hk, hd⟩ := State.channelOf_eq_some.mp hknown
  rcases h with habove | ⟨i, hi, hfree⟩
  · exact absurd (hk ▸ k.isLt) (Nat.not_lt.mpr habove)
  · obtain rfl : i = k := Fin.ext (hi.symm.trans hk)
    exact nomatch hfree.symm.trans hd

/-! ## SEND -/

/-- SEND takes a packet for an ONLINE channel with room (R324). -/
theorem State.sendOn_accepted {o : Byte} {payload : List Byte} (honline : c.state = .online)
    (hroom : c.outq.items.length ≠ c.outq.cap.toNat) :
    s.sendOn i c o payload =
      (s.setChannel i { c with outq := { c.outq with items := c.outq.items ++ [sentPacket c o payload] } }).withReply
        [0x00#8] := by
  rw [State.sendOn, if_neg (not_not.mpr honline), Queue.put_eq_some.mpr ⟨hroom, rfl⟩]

theorem State.sendOn_rejected {o : Byte} {payload : List Byte}
    (h : c.state ≠ .online ∨ c.outq.items.length = c.outq.cap.toNat) :
    s.sendOn i c o payload = s.withReply [0x01#8] := by
  unfold State.sendOn
  split
  · rfl
  next honline => rw [Queue.put_eq_none.mpr (h.resolve_left honline)]

/-- A payload within the bound reaches the channel. -/
theorem exec_send_known {o : Byte} {payload : List Byte} (hshort : payload.length ≤ 50)
    (hknown : s.channelOf id = some (i, c)) : exec (.send id o payload) s = .next (s.sendOn i c o payload) := by
  have hbound : ¬ maxPayload < payload.length := Nat.not_lt.mpr hshort
  show execSend id o payload s = _
  rw [execSend, if_neg hbound, hknown]

theorem exec_send_long {o : Byte} {payload : List Byte} (hlong : 50 < payload.length) :
    exec (.send id o payload) s = .next (s.withReply [0x01#8]) :=
  if_pos hlong

theorem exec_send_unknown {o : Byte} {payload : List Byte} (hunknown : s.channelOf id = none) :
    exec (.send id o payload) s = .next (s.withReply [0x01#8]) := by
  show execSend id o payload s = _
  rw [execSend, hunknown, ite_self]

/-- Settles O15: a payload in bounds for a known channel is for `State.sendOn`; every other SEND is rejected before. -/
theorem sendQueuesOrRejects : Obligations.SendQueuesOrRejects := by
  intro s id o payload
  refine ⟨fun i c hshort hid hc honline hroom => ?accepted, fun h => ?rejected⟩
  case accepted =>
    rw [exec_send_known hshort (State.channelOf_eq_some.mpr ⟨hid, hc⟩), State.sendOn_accepted honline hroom]
    rfl
  case rejected =>
    by_cases hlong : 50 < payload.length
    · exact exec_send_long hlong
    rcases h with h | h | h | ⟨i, c, hid, hc, hrefused⟩
    · exact absurd h hlong
    · exact exec_send_unknown (State.channelOf_eq_none (.inl h))
    · exact exec_send_unknown (State.channelOf_eq_none (.inr h))
    · rw [exec_send_known (Nat.not_lt.mp hlong) (State.channelOf_eq_some.mpr ⟨hid, hc⟩),
        State.sendOn_rejected hrefused]
      rfl

/-! ## RECEIVE -/

theorem exec_receive_unknown (hunknown : s.channelOf id = none) :
    exec (.receive id) s = .next (s.withReply [0x00#8]) := by
  show execReceive id s = _
  rw [execReceive, hunknown]

theorem exec_receive_empty (hknown : s.channelOf id = some (i, c)) (hempty : c.inq.items = []) :
    exec (.receive id) s = .next (s.withReply [0x00#8]) := by
  show execReceive id s = _
  simp only [execReceive, hknown, Queue.get_eq_none.mpr hempty]

theorem exec_receive_head {q : Packet} {rest : List Packet} (hknown : s.channelOf id = some (i, c))
    (hhead : c.inq.items = q :: rest) :
    exec (.receive id) s = .next
      ((s.setChannel i { c with inq := { c.inq with items := rest } }).withReply (packetReply q)) := by
  have hget : c.inq.get = some (q, { c.inq with items := rest }) := Queue.get_eq_some.mpr ⟨hhead, rfl⟩
  show execReceive id s = _
  simp only [execReceive, hknown, hget]

/-- Settles O16: the channel the operand names, and the head of its inbound queue. -/
theorem receiveReturnsTheHead : Obligations.ReceiveReturnsTheHead := by
  intro s id
  refine ⟨fun i c q rest hid hc hhead => ?head, fun h => ?nothing⟩
  case head => exact exec_receive_head (State.channelOf_eq_some.mpr ⟨hid, hc⟩) hhead
  case nothing =>
    rcases h with h | h | ⟨i, c, hid, hc, hempty⟩
    · exact exec_receive_unknown (State.channelOf_eq_none (.inl h))
    · exact exec_receive_unknown (State.channelOf_eq_none (.inr h))
    · exact exec_receive_empty (State.channelOf_eq_some.mpr ⟨hid, hc⟩) hempty

/-! ## The queries -/

theorem exec_isDataAvailable_known (hknown : s.channelOf id = some (i, c)) :
    exec (.isDataAvailable id) s = .next (s.withReply [if c.inq.items = [] then 0x00#8 else 0x01#8]) := by
  show execIsDataAvailable id s = _
  simp only [execIsDataAvailable, hknown, Queue.isEmpty, List.isEmpty_iff]

theorem exec_isDataAvailable_unknown (hunknown : s.channelOf id = none) :
    exec (.isDataAvailable id) s = .next (s.withReply [0x00#8]) := by
  show execIsDataAvailable id s = _
  rw [execIsDataAvailable, hunknown]

theorem exec_channelState_known (hknown : s.channelOf id = some (i, c)) :
    exec (.channelState id) s = .next (s.withReply [0#6 ++ c.state.code]) := by
  show execChannelState id s = _
  rw [execChannelState, hknown]

theorem exec_channelState_unknown (hunknown : s.channelOf id = none) :
    exec (.channelState id) s = .next (s.withReply [0x00#8]) := by
  show execChannelState id s = _
  rw [execChannelState, hunknown]
  rfl

/-- Settles O17: both queries on a known and on an unknown channel; the lifecycle code by the state. -/
theorem channelQueriesReply : Obligations.ChannelQueriesReply := by
  intro s id
  refine ⟨fun i c hid hc => ?known, fun h => ?unknown⟩
  case known =>
    have hknown := State.channelOf_eq_some.mpr ⟨hid, hc⟩
    refine ⟨exec_isDataAvailable_known hknown, ?_⟩
    rw [exec_channelState_known hknown]
    cases c.state with
    | init | offline | online => rfl
  case unknown =>
    have hunknown := State.channelOf_eq_none h
    exact ⟨exec_isDataAvailable_unknown hunknown, exec_channelState_unknown hunknown⟩

end Sys2Proof.Machine
end

/-! # The status words (46_host.md R330, R331; 10_state.md R73, R74)

A word is an append of its fields, so a field is found by its distance from the low end. -/

section
namespace Sys2Proof.Machine

variable {s : State}

/-! ## Bits of an append -/

theorem getLsbD_append_of_lt {v w k : Nat} {hi : BitVec v} {lo : BitVec w} (h : k < w) :
    (hi ++ lo).getLsbD k = lo.getLsbD k := by
  rw [BitVec.getLsbD_append, if_pos h]

theorem getLsbD_append_of_le {v w k : Nat} {hi : BitVec v} {lo : BitVec w} (h : w ≤ k) :
    (hi ++ lo).getLsbD k = hi.getLsbD (k - w) := by
  rw [BitVec.getLsbD_append, if_neg (Nat.not_lt.mpr h)]

/-! ## READ_STATUS -/

/-- Word 0x00, CONFIG. -/
theorem State.configWord_fields (s : State) :
    s.configWord.extractLsb' 0 8 = s.stationAddress ∧ s.configWord.extractLsb' 8 1 = roleCode s.role ∧
    s.configWord.getLsbD 9 = s.running ∧ s.configWord.extractLsb' 10 22 = 0#22 := by
  unfold State.configWord
  simp (disch := decide) only [getLsbD_append_of_lt, getLsbD_append_of_le, BitVec.extractLsb'_append_eq_of_add_le,
    BitVec.extractLsb'_append_eq_of_le]
  simp

/-- Word 0x05, SM. -/
theorem State.smWord_fields (s : State) :
    s.smWord.extractLsb' 0 2 = s.curState.code ∧ s.smWord.extractLsb' 2 2 = s.nextState.code ∧
    s.smWord.extractLsb' 4 3 = s.pendingEvent.code ∧ s.smWord.getLsbD 7 = s.loopbackPending ∧
    s.smWord.extractLsb' 8 2 = s.pollSub.code ∧ s.smWord.extractLsb' 10 1 = s.selectSub.code ∧
    (s.smWord.extractLsb' 11 5).toNat = s.curIndex.val ∧ s.smWord.getLsbD 16 = s.curValid ∧
    s.smWord.getLsbD 17 = s.stateTimer.armed ∧ s.smWord.getLsbD 18 = s.silence.armed ∧
    s.smWord.extractLsb' 19 3 = kindCode s.rxKind ∧ s.smWord.extractLsb' 22 10 = 0#10 := by
  unfold State.smWord
  simp (disch := decide) only [getLsbD_append_of_lt, getLsbD_append_of_le, BitVec.extractLsb'_append_eq_of_add_le,
    BitVec.extractLsb'_append_eq_of_le]
  simp

/-- Word 0x06, RX. -/
theorem State.rxWord_fields (s : State) :
    s.rxWord.extractLsb' 0 9 = s.rxCount ∧ s.rxWord.extractLsb' 9 9 = s.txLen ∧
    s.rxWord.extractLsb' 18 14 = 0#14 := by
  unfold State.rxWord
  simp (disch := decide) only [BitVec.extractLsb'_append_eq_of_add_le, BitVec.extractLsb'_append_eq_of_le]
  simp

theorem exec_readStatus_word {sel : Byte} {w : Word} (h : s.statusWord sel = some w) :
    exec (.readStatus sel) s = .next (s.withReply (wordBytes w)) := by
  show execReadStatus sel s = _
  rw [execReadStatus, h, wordReply]

theorem exec_readStatus_illegal {sel : Byte} (h : s.statusWord sel = none) :
    exec (.readStatus sel) s = .next (s.withReply illegalReply) := by
  show execReadStatus sel s = _
  rw [execReadStatus, h, wordReply]

/-- The selectors with a word are those up to 0x09 (30_encoding.md R116). -/
theorem State.statusWord_isSome {sel : Byte} : (s.statusWord sel).isSome = true ↔ sel.toNat ≤ 0x09 := by
  unfold State.statusWord
  split <;> simp_all
  omega

/-- Settles O18: one word by its selector, each with its fields. -/
theorem readStatusWords : Obligations.ReadStatusWords := by
  intro s sel
  refine ⟨fun hsel => ?word, fun hsel => ?illegal⟩
  case word =>
    obtain ⟨w, hw⟩ := Option.isSome_iff_exists.mp (State.statusWord_isSome.mpr hsel)
    have value {w' : Word} (h : s.statusWord sel = some w') : w = w' := Option.some.inj (hw.symm.trans h)
    refine ⟨w, exec_readStatus_word hw, ?config, ?tick, ?msg, ?err, ?overrun, ?sm, ?rx, ?start, ?interval, ?silence⟩
    case config =>
      rintro rfl
      rw [value (w' := s.configWord) rfl]
      exact s.configWord_fields
    case sm =>
      rintro rfl
      rw [value (w' := s.smWord) rfl]
      exact s.smWord_fields
    case rx =>
      rintro rfl
      rw [value (w' := s.rxWord) rfl]
      exact s.rxWord_fields
    all_goals
      rintro rfl
      exact value rfl
  case illegal =>
    refine exec_readStatus_illegal (Option.not_isSome_iff_eq_none.mp fun h => ?_)
    exact absurd (State.statusWord_isSome.mp h) (Nat.not_le.mpr hsel)

/-! ## READ_CHANNEL -/

/-- Word 0x00, CH_STATUS. -/
theorem Channel.chStatusWord_fields (c : Channel) :
    c.chStatusWord.getLsbD 0 = true ∧ c.chStatusWord.extractLsb' 1 2 = c.state.code ∧
    c.chStatusWord.getLsbD 3 = c.pollActive ∧ c.chStatusWord.getLsbD 4 = c.selectActive ∧
    c.chStatusWord.getLsbD 5 = c.preSelected ∧ c.chStatusWord.getLsbD 6 = c.resync.armed ∧
    c.chStatusWord.getLsbD 7 = false ∧ c.chStatusWord.extractLsb' 8 8 = c.address ∧
    c.chStatusWord.extractLsb' 16 8 = c.notRespond ∧ c.chStatusWord.extractLsb' 24 8 = c.retry := by
  unfold Channel.chStatusWord
  simp (disch := decide) only [getLsbD_append_of_lt, getLsbD_append_of_le, BitVec.extractLsb'_append_eq_of_add_le,
    BitVec.extractLsb'_append_eq_of_le]
  simp

/-- Word 0x01, CH_QUEUES. -/
theorem Channel.chQueuesWord_fields (c : Channel) :
    (c.chQueuesWord.extractLsb' 0 8).toNat = c.outq.items.length % 256 ∧
    c.chQueuesWord.extractLsb' 8 8 = c.outq.cap ∧
    (c.chQueuesWord.extractLsb' 16 8).toNat = c.inq.items.length % 256 ∧
    c.chQueuesWord.extractLsb' 24 8 = c.inq.cap := by
  unfold Channel.chQueuesWord
  simp (disch := decide) only [BitVec.extractLsb'_append_eq_of_add_le, BitVec.extractLsb'_append_eq_of_le]
  simp

/-- The selectors with a word are those up to 0x03 (30_encoding.md R116). -/
theorem Channel.channelWord_isSome {c : Channel} {sel : Byte} :
    (c.channelWord sel).isSome = true ↔ sel.toNat ≤ 0x03 := by
  unfold Channel.channelWord
  split <;> simp_all
  omega

/-- The slot an `id` operand names (30_encoding.md R115). -/
theorem slotOf_eq_some {id : Byte} {i : Fin nCh} (h : id.toNat = i.val) : slotOf id = some i := by
  have hlt : id.toNat < nCh := h ▸ i.isLt
  rw [slotOf, dif_pos hlt]
  exact congrArg some (Fin.ext h)

variable {id sel : Byte} {i : Fin nCh} {c : Channel}

theorem State.readChannelWord_occupied (hid : id.toNat = i.val) (hc : s.channel i = some c) :
    s.readChannelWord id sel = c.channelWord sel := by
  rw [State.readChannelWord, slotOf_eq_some hid]
  simp only [hc]

/-- Every word of an unoccupied slot is 0 (R74). -/
theorem State.readChannelWord_unoccupied (hid : id.toNat = i.val) (hfree : s.channel i = none)
    (hsel : sel.toNat ≤ 0x03) : s.readChannelWord id sel = some 0#32 := by
  rw [State.readChannelWord, slotOf_eq_some hid]
  simp only [hfree]
  exact if_pos (decide_eq_true hsel)

/-- A slot above 0x1F or a selector above 0x03 has no word (30_encoding.md R116). -/
theorem State.readChannelWord_illegal (h : 0x1F < id.toNat ∨ 0x03 < sel.toNat) :
    s.readChannelWord id sel = none := by
  by_cases hid : id.toNat < nCh
  · have hsel : 0x03 < sel.toNat := h.resolve_left (Nat.not_lt.mpr (Nat.le_of_lt_succ hid))
    have hslot : slotOf id = some ⟨id.toNat, hid⟩ := dif_pos hid
    cases hc : s.channel ⟨id.toNat, hid⟩ with
    | none =>
      simp only [State.readChannelWord, hslot, hc]
      exact if_neg (by simpa [channelSelectorOk] using hsel)
    | some c =>
      rw [State.readChannelWord_occupied (i := ⟨id.toNat, hid⟩) rfl hc]
      refine Option.not_isSome_iff_eq_none.mp fun hsome => ?_
      exact absurd (Channel.channelWord_isSome.mp hsome) (Nat.not_le.mpr hsel)
  · have hslot : slotOf id = none := dif_neg hid
    rw [State.readChannelWord, hslot]

theorem exec_readChannel_word {w : Word} (h : s.readChannelWord id sel = some w) :
    exec (.readChannel id sel) s = .next (s.withReply (wordBytes w)) := by
  show execReadChannel id sel s = _
  rw [execReadChannel, h, wordReply]

theorem exec_readChannel_illegal (h : s.readChannelWord id sel = none) :
    exec (.readChannel id sel) s = .next (s.withReply illegalReply) := by
  show execReadChannel id sel s = _
  rw [execReadChannel, h, wordReply]

/-- Settles O19: one word by its selector for an occupied slot, the word 0 for an unoccupied one, none for an illegal
record. -/
theorem readChannelWords : Obligations.ReadChannelWords := by
  intro s id sel
  refine ⟨fun i c hid hc hsel => ?occupied, fun i hid hfree hsel => ?unoccupied, fun h => ?illegal⟩
  case occupied =>
    obtain ⟨w, hw⟩ := Option.isSome_iff_exists.mp (Channel.channelWord_isSome (c := c).mpr hsel)
    have value {w' : Word} (h : c.channelWord sel = some w') : w = w' := Option.some.inj (hw.symm.trans h)
    refine ⟨w, exec_readChannel_word ((State.readChannelWord_occupied hid hc).trans hw), ?status, ?queues, ?start,
      ?interval⟩
    case status =>
      rintro rfl
      rw [value (w' := c.chStatusWord) rfl]
      exact c.chStatusWord_fields
    case queues =>
      rintro rfl
      rw [value (w' := c.chQueuesWord) rfl]
      exact c.chQueuesWord_fields
    all_goals
      rintro rfl
      exact value rfl
  case unoccupied => exact exec_readChannel_word (State.readChannelWord_unoccupied hid hfree hsel)
  case illegal => exact exec_readChannel_illegal (State.readChannelWord_illegal h)

end Sys2Proof.Machine
end

/-! # No two transmissions without RX_MODE between them: refuted (46_host.md R342)

The run below has the vector values. A SELECT is not answered within `T_REPLY`; its NACK is complete one tick too late,
is taken before the IDLE that the TIMEOUT posted (R212, R264), and is answered with a retransmission (R262). The next
SELECT then goes out before that echo (R258). -/

section
namespace Sys2Proof.Machine

/-- `n` ticks. -/
def ticks (n : Nat) : List Strobe := List.replicate n (.record [0x0A#8])

/-- A master gets a channel of address 0x01 that it selects but does not poll once ONLINE, and starts (R114). -/
def selectingMaster : List Strobe :=
  [.record [0x01#8, 0x00#8, 0x00#8], .record [0x02#8, 0x01#8, 0x02#8, 0x02#8, 0x01#8], .record [0x03#8]]

/-- The first POLL is sent, its echo comes back, and the station answers EOT: the channel is ONLINE (R246 to R250). -/
def pollAnswered : List Strobe :=
  ticks 4 ++ [.frame [0x04#8, 0x01#8, 0x05#8]] ++ ticks 2 ++ [.frame [0x04#8]] ++ ticks 2

/-- Two packets are queued; the SELECT of the first is sent, and its echo comes back (R258, R259). -/
def firstSelect : List Strobe :=
  [.record [0x04#8, 0x00#8, 0x10#8, 0x00#8], .record [0x04#8, 0x00#8, 0x11#8, 0x00#8]] ++ ticks 2 ++
    [.frame [0x04#8, 0x02#8, 0x01#8, 0x10#8, 0x03#8, 0x12#8]] ++ ticks 2

/-- A NACK reaches the framer one tick before the TIMEOUT and is complete one tick after it; no echo comes any more. -/
def lateNack : List Strobe := ticks 4 ++ [.frame [0x15#8]] ++ ticks 4

/-- The inputs of the run, from reset on. -/
def lateNackRun : List Strobe := selectingMaster ++ pollAnswered ++ firstSelect ++ lateNack

/-- The trace of the run: its last two transmissions, the retransmission and the SELECT of the second packet, have no
RX_MODE between them. -/
def lateNackTrace : List Action :=
  [.rxMode, .rxArm,
    .txMode, .transmit [0x04#8, 0x01#8, 0x05#8], .rxArm, .rxArm, .rxArm, .rxMode, .rxArm,
    .txMode, .transmit [0x04#8, 0x02#8, 0x01#8, 0x10#8, 0x03#8, 0x12#8],
    .rxArm, .rxArm, .rxArm, .rxArm, .rxArm, .rxArm, .rxMode, .rxArm,
    .txMode, .transmit [0x04#8, 0x02#8, 0x01#8, 0x10#8, 0x03#8, 0x12#8],
    .txMode, .transmit [0x04#8, 0x02#8, 0x01#8, 0x11#8, 0x03#8, 0x13#8]]

theorem lateNackRun_actions : ((State.resetWith Params.vector).after lateNackRun).actions = lateNackTrace := by
  decide

/-- Refutes O59: the vector values are legal, and the scan of the run's trace stops at its last transmission. -/
theorem not_transmissionsAreApart : ¬ Obligations.TransmissionsAreApart := by
  intro h
  have hapart := h Params.vector lateNackRun (by decide)
  rw [lateNackRun_actions] at hapart
  exact absurd hapart (by decide)

end Sys2Proof.Machine
end

/-! # The direction discipline where its premise holds (46_host.md R342)

A rule sends at most one frame (`State.LineMoves`), so the discipline holds of a step whose rule finds no echo awaited.
Only a jump is dispatched while an echo is awaited, and of the jumps only the one into a master's SELECT sends. -/

section
namespace Sys2Proof.Machine

variable {s t u : State}

/-- What `s` emits on its way to `t` keeps the discipline, and leaves a transmission open exactly while `t` awaits its
echo. -/
def State.Disciplined (s t : State) : Prop :=
  ∃ emitted, t.actions = s.actions ++ emitted ∧ LinePhase.along s.linePhase emitted = some t.linePhase

theorem State.linePhase_eq_listening (h : s.loopbackPending = false) : s.linePhase = .listening :=
  if_neg (by simp [h])

theorem State.linePhase_eq_sent (h : s.loopbackPending = true) : s.linePhase = .sent :=
  if_pos h

/-- Emitting nothing keeps the discipline. -/
theorem State.Disciplined.of_silent (hactions : t.actions = s.actions) (hline : t.loopbackPending = s.loopbackPending) :
    s.Disciplined t :=
  ⟨[], hactions.trans (List.append_nil _).symm, congrArg some (State.linePhase_congr hline).symm⟩

theorem State.Disciplined.trans (hsu : s.Disciplined u) (hut : u.Disciplined t) : s.Disciplined t := by
  obtain ⟨a, ha, hphaseA⟩ := hsu
  obtain ⟨b, hb, hphaseB⟩ := hut
  refine ⟨a ++ b, by rw [hb, ha, List.append_assoc], ?_⟩
  rw [LinePhase.along_append, hphaseA]
  exact hphaseB

/-- RX_MODE closes a transmission that is open, and changes nothing where none is (R342). -/
theorem State.Disciplined.of_release (hactions : t.actions = s.actions ++ [.rxMode])
    (hline : t.loopbackPending = false) : s.Disciplined t := by
  refine ⟨[.rxMode], hactions, ?_⟩
  rw [State.linePhase_eq_listening hline]
  cases hs : s.loopbackPending with
  | false => rw [State.linePhase_eq_listening hs]; rfl
  | true => rw [State.linePhase_eq_sent hs]; rfl

/-- One frame may be sent where no echo is awaited: R342's premise. -/
theorem State.LineMoves.disciplined (h : s.LineMoves t) (hline : s.loopbackPending = false) : s.Disciplined t := by
  rcases h with ⟨hactions, hsame⟩ | ⟨bytes, hactions, hsent⟩
  · exact .of_silent hactions hsame
  · refine ⟨_, hactions, ?_⟩
    rw [State.linePhase_eq_listening hline, State.linePhase_eq_sent hsent]
    rfl

theorem State.dispatch_disciplined {ev : Event} (hev : ev ≠ .init) (hline : s.loopbackPending = false) :
    s.Disciplined (s.dispatch ev) :=
  (s.dispatch_lineMoves hev).disciplined hline

/-- The INIT handler turns the line to receive, whatever it finds (43_engine.md R222). -/
theorem State.dispatch_init_disciplined (s : State) : s.Disciplined (s.dispatch .init) := by
  rw [State.dispatch_init]
  have released : s.Disciplined s.releaseLine := .of_release rfl rfl
  exact released.trans ⟨[.rxArm], by simp [State.releaseLine], rfl⟩

/-! ## A jump while an echo is awaited -/

/-- `t` comes from `s` without an action, and the echo is awaited as before. -/
def State.Silent (s t : State) : Prop := t.actions = s.actions ∧ t.loopbackPending = s.loopbackPending

/-- A rule on a channel is silent where it is so on every channel. -/
theorem State.Silent.onChannel {i : Fin nCh} {f : Channel → State} (hu : s.Silent u) (hf : ∀ c, s.Silent (f c)) :
    s.Silent (u.onChannel i f) := by
  rcases u.onChannel_cases i f with ⟨-, heq⟩ | ⟨c, -, heq⟩ <;> rw [heq]
  · exact hu
  · exact hf c

theorem State.visit_silent (s : State) (i : Fin nCh) (c : Channel) : s.Silent (s.visit i c) := by
  unfold State.visit State.visitOnlinePoll State.visitOffline
  (repeat' split) <;> exact ⟨rfl, rfl⟩

theorem State.schedule_silent (s : State) : s.Silent s.schedule := by
  unfold State.schedule
  cases s.advanceRoundRobin with
  | none => exact ⟨rfl, rfl⟩
  | some r => exact State.Silent.onChannel ⟨rfl, rfl⟩ fun c => State.visit_silent _ r c

theorem slaveIdleJump_silent (s : State) : s.Silent (slaveIdleJump s) := by
  unfold slaveIdleJump
  split <;> exact ⟨rfl, rfl⟩

/-- No handler sends on a jump. -/
theorem State.handle_jump_silent (s : State) : s.Silent (s.handle .jumpState) := by
  cases hcur : s.curState with
  | init =>
    rw [State.handle_of_init hcur (by decide)]
    exact ⟨rfl, rfl⟩
  | idle =>
    cases hrole : s.role with
    | master =>
      rw [State.handle_of_masterIdle hrole hcur]
      exact s.schedule_silent
    | slave =>
      rw [State.handle_of_slaveIdle hrole hcur]
      exact slaveIdleJump_silent s
  | poll =>
    rw [State.handle_jump (.inl hcur)]
    exact ⟨rfl, rfl⟩
  | select =>
    rw [State.handle_jump (.inr hcur)]
    exact ⟨rfl, rfl⟩

/-- No entry hook sends but that of the master's SELECT (44_master.md R258). -/
theorem State.entryHook_silent {target : TopState} (h : ¬ (s.role = .master ∧ target = .select)) :
    s.Silent (s.entryHook target) := by
  cases target with
  | init | idle => exact ⟨rfl, rfl⟩
  | poll =>
    cases hrole : s.role with
    | master =>
      rw [State.entryHook_poll_of_master hrole]
      refine State.Silent.onChannel ⟨rfl, rfl⟩ fun _ => ?_
      exact ⟨rfl, rfl⟩
    | slave =>
      rw [State.entryHook_poll_of_slave hrole]
      refine State.Silent.onChannel ⟨rfl, rfl⟩ fun c => ?_
      (repeat' split) <;> exact ⟨rfl, rfl⟩
  | select =>
    cases hrole : s.role with
    | master => exact absurd ⟨hrole, rfl⟩ h
    | slave =>
      rw [State.entryHook_select_of_slave hrole, slaveSelectEntry]
      obtain ⟨timer, hmirror⟩ := State.exists_mirror_eq { s with selectSub := .sendWaitOrReceiveWait }
      rw [hmirror]
      exact ⟨rfl, rfl⟩

/-- A jump sends nothing unless it takes a master into SELECT. -/
theorem State.dispatch_jump_silent (h : ¬ (s.role = .master ∧ s.nextState = .select ∧ s.curState ≠ .select)) :
    s.Silent (s.dispatch .jumpState) := by
  by_cases hstay : s.nextState = s.curState
  · rw [State.dispatch_stay (by decide) (by exact hstay)]
    exact s.handle_jump_silent
  · rw [State.dispatch_change (by decide) (by exact hstay)]
    have hentry : ¬ (s.role = .master ∧ s.nextState = .select) :=
      fun ⟨hrole, hnext⟩ => h ⟨hrole, hnext, fun hcur => hstay (hnext.trans hcur.symm)⟩
    obtain ⟨hactions, hline⟩ :=
      State.entryHook_silent (s := { s.exitHook with curState := s.nextState }) (target := s.nextState) hentry
    obtain ⟨hactions', hline'⟩ := State.handle_jump_silent
      (State.entryHook { s.exitHook with curState := s.nextState } s.nextState)
    exact ⟨hactions'.trans hactions, hline'.trans hline⟩

/-! ## Every instruction -/

/-- RX_ARM stands anywhere in the trace. -/
theorem State.receiveByte_disciplined (s : State) (b : Byte) : s.Disciplined (s.receiveByte b) := by
  refine ⟨[.rxArm], rfl, ?_⟩
  rw [State.linePhase_congr (s.receiveByte_loopbackPending b)]
  cases s.linePhase <;> rfl

theorem State.receiveBytes_disciplined (s : State) (bytes : List Byte) : s.Disciplined (s.receiveBytes bytes) := by
  induction bytes generalizing s with
  | nil => exact .of_silent rfl rfl
  | cons b bs ih => exact (s.receiveByte_disciplined b).trans (ih _)

theorem State.deliver_disciplined (s : State) (f : Frame) : s.Disciplined (s.deliver f) :=
  State.Disciplined.trans (u := s.withReply []) (.of_silent rfl rfl) (State.receiveBytes_disciplined _ _)

/-- A pending INIT turns the line to receive; a pending jump sends only where no echo is awaited. -/
theorem State.tickPending_disciplined {e : Event} (hpend : s.PendingOk) (hover : ¬ s.SelectOverAnEcho)
    (hdue : s.PendingDue e) : s.tickPending.Disciplined (s.tickPending.dispatch e) := by
  have ⟨_, _, hevent, hsome⟩ := hdue
  obtain ⟨hpossible, -, -⟩ := hpend
  rcases hpossible with h | h | h
  · exact absurd (hevent.symm.trans h) hsome
  · obtain rfl : e = .init := hevent.symm.trans h
    exact s.tickPending.dispatch_init_disciplined
  · obtain rfl : e = .jumpState := hevent.symm.trans h
    cases hline : s.loopbackPending with
    | false => exact State.dispatch_disciplined (by decide) hline
    | true =>
      obtain ⟨hactions, hsame⟩ := State.dispatch_jump_silent (s := s.tickPending)
        fun ⟨hrole, hnext, hcur⟩ => hover ⟨hrole, hline, hdue, hnext, hcur⟩
      exact .of_silent hactions hsame

/-- The derivation of the event leaves an echo awaited only where a jump or INIT is pending. -/
theorem exec_tick_disciplined (hpend : s.PendingOk) (hover : ¬ s.SelectOverAnEcho) :
    ∃ t, exec .tick s = .next t ∧ s.Disciplined t := by
  rcases tick_finds s with hstopped | hnothing | hgarbage | hecho | ⟨k, p, hreceive⟩ | ⟨e, hpending⟩ | htimeout
  · exact ⟨_, exec_tick_stopped hstopped, .of_silent rfl rfl⟩
  · exact ⟨_, exec_tick_nothing hnothing, .of_silent rfl rfl⟩
  · exact ⟨_, exec_tick_garbage hgarbage, .of_silent rfl rfl⟩
  · have released : s.Disciplined s.tickEcho := .of_release rfl rfl
    exact ⟨_, exec_tick_echo hecho, released.trans (State.dispatch_disciplined (s := s.tickEcho) (by decide) rfl)⟩
  · have recorded : s.Disciplined (s.tickFrame k p) := .of_silent rfl rfl
    have ⟨_, hline, _⟩ := hreceive
    exact ⟨_, exec_tick_frame hreceive,
      recorded.trans (State.dispatch_disciplined (s := s.tickFrame k p) (by decide) hline)⟩
  · have taken : s.Disciplined s.tickPending := .of_silent rfl rfl
    exact ⟨_, exec_tick_pending hpending, taken.trans (State.tickPending_disciplined hpend hover hpending)⟩
  · have released : s.Disciplined s.tickTimeout := by
      cases hline : s.loopbackPending with
      | false => exact .of_silent (if_neg (by simp [hline])) hline.symm
      | true => exact .of_release (if_pos hline) rfl
    exact ⟨_, exec_tick_timeout htimeout,
      released.trans (State.dispatch_disciplined (s := s.tickTimeout) (by decide) rfl)⟩

/-- Of the instructions other than INIT only the tick and the byte input emit. -/
theorem exec_disciplined {i : Instr} (hi : isInit i = false)
    (htick : i = .tick → s.PendingOk ∧ ¬ s.SelectOverAnEcho) : ∃ t, exec i s = .next t ∧ s.Disciplined t := by
  have quiet (hquiet : isQuietCommand i = true) (hstart : i ≠ .start) :
      ∃ t, exec i s = .next t ∧ s.Disciplined t := by
    obtain ⟨slots, r, h⟩ := exec_quiet_eq s hquiet hstart
    exact ⟨_, h, .of_silent rfl rfl⟩
  cases i with
  | init r a => exact nomatch hi
  | start =>
    obtain ⟨running, e, h⟩ := exec_start_eq s
    exact ⟨_, h, .of_silent rfl rfl⟩
  | createChannel | send | receive | isDataAvailable | channelState | readStatus | readChannel =>
    exact quiet rfl nofun
  | tick =>
    obtain ⟨hpend, hover⟩ := htick rfl
    exact exec_tick_disciplined hpend hover
  | rxByte b => exact ⟨_, rfl, State.receiveByte_disciplined (s.withReply []) b⟩
  | ack => exact ⟨_, rfl, s.deliver_disciplined .ack⟩
  | nack => exact ⟨_, rfl, s.deliver_disciplined .nack⟩
  | eot => exact ⟨_, rfl, s.deliver_disciplined .eot⟩
  | poll a => exact ⟨_, rfl, s.deliver_disciplined (.poll a)⟩
  | select a o payload => exact ⟨_, rfl, s.deliver_disciplined (.select ⟨a, o, payload⟩)⟩
  | respond a o payload => exact ⟨_, rfl, s.deliver_disciplined (.respond ⟨a, o, payload⟩)⟩

/-- Settles O60: every instruction but INIT keeps the discipline; INIT emits nothing and awaits no echo. -/
theorem directionDisciplineHoldsWhereItsPremiseDoes : Obligations.DirectionDisciplineHoldsWhereItsPremiseDoes := by
  refine ⟨fun i s hi htick => ?kept, fun r a s => ⟨_, rfl, rfl, rfl⟩⟩
  case kept =>
    obtain ⟨t, ht, emitted, hactions, hphase⟩ := exec_disciplined hi htick
    exact ⟨t, emitted, ht, hactions, hphase⟩

end Sys2Proof.Machine
end

/-! Proofs of the statements about exceptions (spec/60_exceptions.md), of which the block has none: no step stops, no
input is undefined, and the control state is never stuck. -/

/-! # Inputs (60_exceptions.md R363, R364, R375) -/

section
namespace Sys2Proof.Machine

variable {s t u : State}

/-- Bytes on the line reach the framer and the trace, and nothing else (43_engine.md R221). -/
theorem State.exists_receiveBytes_eq (s : State) (bytes : List Byte) :
    ∃ buf count timer emitted, s.receiveBytes bytes =
      { s with rxBuf := buf, rxCount := count, silence := timer, actions := s.actions ++ emitted } := by
  induction bytes generalizing s with
  | nil => exact ⟨s.rxBuf, s.rxCount, s.silence, [], by simp [State.receiveBytes]⟩
  | cons b bs ih =>
    have hone : ∃ buf count timer, s.receiveByte b =
        { s with rxBuf := buf, rxCount := count, silence := timer, actions := s.actions ++ [.rxArm] } := by
      unfold State.receiveByte State.storeByte
      split <;> exact ⟨_, _, _, rfl⟩
    obtain ⟨buf, count, timer, emitted, hrest⟩ := ih (s.receiveByte b)
    obtain ⟨_, _, _, hone⟩ := hone
    refine ⟨buf, count, timer, .rxArm :: emitted, ?_⟩
    rw [State.receiveBytes, hrest, hone]
    simp

/-- Without an input nothing moves (00_scope.md R7). -/
theorem step_of_no_input (hinput : s.input = []) : step s = .next s := by
  rw [step, State.takeNext, hinput]

/-- An input that names no instruction is taken off the inputs all the same. -/
theorem step_of_decodeStrobe_error {x : Strobe} {rest : List Strobe} {e : DecodeError} (hinput : s.input = x :: rest)
    (hdecode : decodeStrobe s.params x = .error e) :
    step s = .next (State.takeUndecoded { s with input := rest } x) := by
  simp only [step, State.takeNext, hinput, State.take, hdecode]

/-- Settles O9: what is taken of bytes that are no frame is their delivery. -/
theorem stepWithoutAnInstruction : Obligations.StepWithoutAnInstruction :=
  ⟨fun _ => step_of_no_input, fun _ _ _ _ hinput hdecode => step_of_decodeStrobe_error hinput hdecode⟩

/-! ## The parameters and the trace -/

/-- The parameters stay, and the trace grows at its end only (20_memory.md R98, 46_host.md R340). -/
def State.Extends (s t : State) : Prop := t.params = s.params ∧ ∃ emitted, t.actions = s.actions ++ emitted

theorem State.Extends.of_silent (hparams : t.params = s.params) (hactions : t.actions = s.actions) : s.Extends t :=
  ⟨hparams, [], hactions.trans (List.append_nil _).symm⟩

theorem State.Extends.trans (hsu : s.Extends u) (hut : u.Extends t) : s.Extends t := by
  obtain ⟨hparams, a, ha⟩ := hsu
  obtain ⟨hparams', b, hb⟩ := hut
  exact ⟨hparams'.trans hparams, a ++ b, by rw [hb, ha, List.append_assoc]⟩

/-- An event sends at most one frame, or is the INIT that turns the line to receive. -/
theorem State.dispatch_extends (s : State) (ev : Event) : s.Extends (s.dispatch ev) := by
  obtain ⟨-, -, -, -, hparams, -⟩ := s.dispatch_sameRecord ev
  refine ⟨hparams, ?_⟩
  by_cases hev : ev = .init
  · rw [hev, State.dispatch_init]
    exact ⟨_, rfl⟩
  · rcases s.dispatch_lineMoves hev with ⟨hactions, -⟩ | ⟨bytes, hactions, -⟩
    · exact ⟨[], hactions.trans (List.append_nil _).symm⟩
    · exact ⟨_, hactions⟩

theorem State.receiveBytes_extends (s : State) (bytes : List Byte) : s.Extends (s.receiveBytes bytes) := by
  obtain ⟨_, _, _, emitted, h⟩ := s.exists_receiveBytes_eq bytes
  rw [h]
  exact ⟨rfl, emitted, rfl⟩

theorem exec_tick_extends (s : State) : ∃ t, exec .tick s = .next t ∧ s.Extends t := by
  rcases tick_finds s with hstopped | hnothing | hgarbage | hecho | ⟨k, p, hreceive⟩ | ⟨e, hpending⟩ | htimeout
  · exact ⟨_, exec_tick_stopped hstopped, .of_silent rfl rfl⟩
  · exact ⟨_, exec_tick_nothing hnothing, .of_silent rfl rfl⟩
  · exact ⟨_, exec_tick_garbage hgarbage, .of_silent rfl rfl⟩
  · have released : s.Extends s.tickEcho := ⟨rfl, _, rfl⟩
    exact ⟨_, exec_tick_echo hecho, released.trans (s.tickEcho.dispatch_extends _)⟩
  · have recorded : s.Extends (s.tickFrame k p) := .of_silent rfl rfl
    exact ⟨_, exec_tick_frame hreceive, recorded.trans ((s.tickFrame k p).dispatch_extends _)⟩
  · have taken : s.Extends s.tickPending := .of_silent rfl rfl
    exact ⟨_, exec_tick_pending hpending, taken.trans (s.tickPending.dispatch_extends _)⟩
  · have released : s.Extends s.tickTimeout := by
      cases hline : s.loopbackPending with
      | false => exact .of_silent rfl (if_neg (by simp [hline]))
      | true => exact ⟨rfl, _, if_pos hline⟩
    exact ⟨_, exec_tick_timeout htimeout, released.trans (s.tickTimeout.dispatch_extends _)⟩

/-- Every instruction has a meaning in every state: none ends in a fault or a refusal (60_exceptions.md R363, R364). -/
theorem exec_extends (s : State) (i : Instr) : ∃ t, exec i s = .next t ∧ s.Extends t := by
  have quiet (hquiet : isQuietCommand i = true) (hstart : i ≠ .start) : ∃ t, exec i s = .next t ∧ s.Extends t := by
    obtain ⟨slots, r, h⟩ := exec_quiet_eq s hquiet hstart
    exact ⟨_, h, .of_silent rfl rfl⟩
  have delivered (bytes : List Byte) : s.Extends ((s.withReply []).receiveBytes bytes) :=
    State.receiveBytes_extends _ bytes
  cases i with
  | init r a => exact ⟨_, rfl, .of_silent rfl rfl⟩
  | start =>
    obtain ⟨running, e, h⟩ := exec_start_eq s
    exact ⟨_, h, .of_silent rfl rfl⟩
  | createChannel | send | receive | isDataAvailable | channelState | readStatus | readChannel =>
    exact quiet rfl nofun
  | tick => exact exec_tick_extends s
  | rxByte b => exact ⟨_, rfl, delivered [b]⟩
  | ack | nack | eot | poll | select | respond => exact ⟨_, rfl, delivered _⟩

/-- Settles O10: an input that decodes is an instruction; any other is answered, or its bytes reach the byte input. -/
theorem stepAlwaysAnswersANextState : Obligations.StepAlwaysAnswersANextState := by
  intro s
  rcases step_cases s with ⟨-, hstep⟩ | ⟨x, rest, i, -, -, hstep⟩ | ⟨x, rest, e, -, -, hstep⟩ <;> rw [hstep]
  · exact ⟨s, rfl, State.Extends.of_silent rfl rfl⟩
  · exact exec_extends { s with input := rest } i
  · refine ⟨_, rfl, ?_⟩
    cases x with
    | record bytes => exact State.Extends.of_silent (s := s) rfl rfl
    | frame bytes => exact State.receiveBytes_extends (State.withReply { s with input := rest } []) bytes

end Sys2Proof.Machine
end

/-! # The control state (60_exceptions.md R363)

A tick dispatches its event from a state that `State.DispatchOk` describes: the control state is sound, but for what the
block awaited, which may have been that very event. A rule of POLL or SELECT then either leaves the pending event and
awaits something, or posts another state (`State.GoesOn`); IDLE and INIT post always or do nothing. -/

section
namespace Sys2Proof.Machine

variable {s t : State} {c d : Channel}

/-- Where no event is pending, the state timer runs or the slave waits for its master. -/
abbrev State.Awaits (s : State) : Prop :=
  s.pendingEvent = .none →
    s.stateTimer.armed = true ∨ (s.role = .slave ∧ s.curState = .select ∧ s.selectSub = .sendWaitOrReceiveWait)

/-- What a running block keeps while an event is dispatched. -/
structure State.DispatchOk (s : State) : Prop where
  running  : s.running = true
  pending  : s.PendingOk
  exchange : s.ExchangeOk
  ready    : s.SelectReady
  quiet    : s.IdleQuiet

theorem State.ControlOk.dispatchOk (h : s.ControlOk) (hrun : s.running = true) : s.DispatchOk := by
  obtain ⟨-, pending, exchange, ready, quiet, -⟩ := h
  exact ⟨hrun, pending, exchange, ready, quiet⟩

theorem State.ControlOk.awaits (h : s.ControlOk) (hrun : s.running = true) : s.Awaits := by
  obtain ⟨-, -, -, -, -, live⟩ := h
  exact live hrun

theorem State.DispatchOk.controlOk (h : s.DispatchOk) (hlive : s.Awaits) : s.ControlOk :=
  ⟨fun hstop => (nomatch h.running.symm.trans hstop), h.pending, h.exchange, h.ready, h.quiet, fun _ => hlive⟩

/-- An exchange has its channel. -/
theorem State.DispatchOk.exists_channel (h : s.DispatchOk) (hcur : s.curState = .poll ∨ s.curState = .select) :
    s.curValid = true ∧ ∃ c, s.channel s.curIndex = some c := by
  obtain ⟨current, -, -⟩ := h.exchange
  obtain ⟨hvalid, hsome⟩ := current hcur
  exact ⟨hvalid, Option.isSome_iff_exists.mp hsome⟩

/-- The channel of a slave's exchange is that of slot 0 (45_slave.md R281). -/
theorem State.DispatchOk.curIndex_eq_zero (h : s.DispatchOk) (hrole : s.role = .slave)
    (hcur : s.curState = .poll ∨ s.curState = .select) : s.curIndex = 0 := by
  obtain ⟨-, -, slot0⟩ := h.exchange
  obtain ⟨hvalid, -⟩ := h.exists_channel hcur
  exact slot0 hrole hvalid

/-! ## What a rule of an exchange can do -/

/-- Every slot has the outbound queue that it had. -/
def State.SameOutbound (s t : State) : Prop :=
  ∀ i, (t.channel i).map Channel.outq = (s.channel i).map Channel.outq

theorem State.SameOutbound.of_set {i : Fin nCh} (hc : s.channel i = some c)
    (ht : t.channels = s.channels.set i.val (some d) i.isLt) (hd : d.outq = c.outq) : s.SameOutbound t := by
  intro j
  rw [State.channel_congr (t := s.setChannel i d) ht, State.channel_setChannel]
  split
  next hij =>
    subst hij
    rw [hc, Option.map_some, Option.map_some, hd]
  next => rfl

theorem State.SameOutbound.any_eq (h : s.SameOutbound t) (i : Fin nCh) :
    (t.channel i).any (fun c => !c.outq.isEmpty) = (s.channel i).any (fun c => !c.outq.isEmpty) := by
  have hany (o : Option Channel) :
      o.any (fun c => !c.outq.isEmpty) = (o.map Channel.outq).any fun q => !q.isEmpty := by rw [Option.any_map]
  rw [hany, hany, h i]

/-- A state that a rule of an exchange posts: another one than its own, and SELECT only as a slave. -/
structure State.MayPost (s : State) (target : TopState) : Prop where
  ne_init : target ≠ .init
  ne_cur  : target ≠ s.curState
  slave   : target = .select → s.role = .slave

/-- What a rule of an exchange can do to the control state. -/
inductive State.GoesOn (s t : State) : Prop where
  /-- The pending event stays, and something is awaited; a packet is taken to be sent only where no event is pending. -/
  | waits (live : t.Awaits) (outbound : s.pendingEvent = .none ∨ s.SameOutbound t)
      (pending : t.pendingEvent = s.pendingEvent := by rfl) (next : t.nextState = s.nextState := by rfl)
      (curIndex : t.curIndex = s.curIndex := by rfl) (curValid : t.curValid = s.curValid := by rfl)
  /-- A jump is posted (43_engine.md R224). -/
  | posts (target : s.MayPost t.nextState) (pending : t.pendingEvent = .jumpState := by rfl)
      (curIndex : t.curIndex = s.curIndex := by rfl) (curValid : t.curValid = s.curValid := by rfl)

/-- An event that no rule names. -/
theorem State.GoesOn.ignored (hlive : s.Awaits) : s.GoesOn s :=
  .waits hlive (.inr fun _ => rfl)

/-- A rule that arms the state timer and writes no slot. -/
theorem State.GoesOn.armed (htimer : t.stateTimer.armed = true) (hslots : t.channels = s.channels)
    (pending : t.pendingEvent = s.pendingEvent := by rfl) (next : t.nextState = s.nextState := by rfl)
    (curIndex : t.curIndex = s.curIndex := by rfl) (curValid : t.curValid = s.curValid := by rfl) : s.GoesOn t :=
  .waits (fun _ => .inl htimer) (.inr fun i => by rw [State.channel_congr hslots]) pending next curIndex curValid

/-- A rule that arms the state timer and writes one slot, but not its outbound queue. -/
theorem State.GoesOn.armed_set {i : Fin nCh} (hc : s.channel i = some c) (htimer : t.stateTimer.armed = true)
    (ht : t.channels = s.channels.set i.val (some d) i.isLt) (hd : d.outq = c.outq)
    (pending : t.pendingEvent = s.pendingEvent := by rfl) (next : t.nextState = s.nextState := by rfl)
    (curIndex : t.curIndex = s.curIndex := by rfl) (curValid : t.curValid = s.curValid := by rfl) : s.GoesOn t :=
  .waits (fun _ => .inl htimer) (.inr (.of_set hc ht hd)) pending next curIndex curValid

theorem State.mayPost_idle (hcur : s.curState = .poll ∨ s.curState = .select) : s.MayPost .idle where
  ne_init := by decide
  ne_cur  := by rcases hcur with h | h <;> rw [h] <;> decide
  slave   := nofun

theorem State.GoesOn.same_current (h : s.GoesOn t) : t.curIndex = s.curIndex ∧ t.curValid = s.curValid := by
  cases h with
  | waits _ _ _ _ curIndex curValid => exact ⟨curIndex, curValid⟩
  | posts _ _ curIndex curValid => exact ⟨curIndex, curValid⟩

theorem State.GoesOn.awaits (h : s.GoesOn t) : t.Awaits := by
  cases h with
  | waits live => exact live
  | posts _ pending => exact fun hnone => nomatch pending.symm.trans hnone

theorem State.GoesOn.pendingOk (h : s.GoesOn t) (hs : s.PendingOk) (hcur : t.curState = s.curState) : t.PendingOk := by
  cases h with
  | waits _ _ pending next => simpa only [State.PendingOk, pending, next, hcur] using hs
  | posts target pending =>
    exact ⟨.inr (.inr pending), fun hinit => (nomatch pending.symm.trans hinit),
      fun _ => ⟨target.ne_init, fun hstay => absurd (hstay.trans hcur) target.ne_cur⟩⟩

/-- A packet that a pending jump to SELECT is to send is still there. -/
theorem State.GoesOn.selectReady (h : s.GoesOn t) (hs : s.SelectReady) (hrole : t.role = s.role) : t.SelectReady := by
  intro hmaster hjump hselect
  rw [hrole] at hmaster
  cases h with
  | waits _ outbound pending next curIndex =>
    rw [pending] at hjump
    rw [next] at hselect
    rcases outbound with hnone | hqueues
    · exact nomatch hnone.symm.trans hjump
    · rw [curIndex, hqueues.any_eq]
      exact hs hmaster hjump hselect
  | posts target => exact nomatch hmaster.symm.trans (target.slave hselect)

/-- The slots stay occupied (42_registry.md R181), that of the exchange among them. -/
theorem State.GoesOn.exchangeOk (h : s.GoesOn t) (hs : s.DispatchOk)
    (hcur : s.curState = .poll ∨ s.curState = .select) (hrole : t.role = s.role) (hslots : s.SlotsAdvance t) :
    t.ExchangeOk := by
  obtain ⟨hindex, hvalid⟩ := h.same_current
  obtain ⟨hsvalid, c, hc⟩ := hs.exists_channel hcur
  obtain ⟨d, hd, -⟩ := hslots.at hc
  have current : t.CurrentExists := ⟨hvalid.trans hsvalid, by rw [hindex, hd]; rfl⟩
  exact ⟨fun _ => current, fun _ _ => current,
    fun hslave _ => hindex.trans (hs.curIndex_eq_zero (hrole.symm.trans hslave) hcur)⟩

/-- After a rule of an exchange the control state is sound. -/
theorem State.GoesOn.controlOk (h : s.GoesOn t) (hs : s.DispatchOk)
    (hcur : s.curState = .poll ∨ s.curState = .select) (hrecord : s.SameRecord t) (hsame : t.curState = s.curState)
    (hslots : s.SlotsAdvance t) : t.ControlOk := by
  obtain ⟨hrole, -, hrun, -⟩ := hrecord
  have quiet : t.IdleQuiet := by
    rw [State.IdleQuiet, hsame]
    rcases hcur with hcur | hcur <;> rw [hcur] <;> nofun
  exact State.DispatchOk.controlOk
    { running  := hrun.trans hs.running
      pending  := h.pendingOk hs.pending hsame
      exchange := h.exchangeOk hs hcur hrole hslots
      ready    := h.selectReady hs.ready hrole
      quiet    := quiet } h.awaits

/-! ## The master -/

section
variable (hc : s.channel s.curIndex = some c)
include hc

theorem masterPollUnanswered_goesOn (hcur : s.curState = .poll) : s.GoesOn (masterPollUnanswered s) := by
  rw [masterPollUnanswered_eq hc]
  exact .posts (State.mayPost_idle (.inl hcur))

theorem masterPoll_timeout_goesOn (hcur : s.curState = .poll) : s.GoesOn (masterPoll s .timeout) := by
  cases hsub : s.pollSub with
  | sendDelay =>
    rw [masterPoll_sendDelay_timeout hsub]
    exact .armed rfl rfl
  | sendWait =>
    rw [masterPoll_wait_timeout (.inl hsub)]
    exact masterPollUnanswered_goesOn hc hcur
  | replyWait =>
    rw [masterPoll_wait_timeout (.inr hsub)]
    exact masterPollUnanswered_goesOn hc hcur
  | sendAckDelay =>
    rw [masterPoll_sendAckDelay_timeout hsub]
    exact .armed rfl rfl

theorem masterPollRespond_goesOn (hlive : s.Awaits) : s.GoesOn (masterPollRespond s) := by
  rw [masterPollRespond, State.onChannel_some _ hc]
  have hout : (s.answeredChannel c).outq = c.outq := s.transition_outq c .online
  split
  · cases c.inq.put s.rxPacket with
    | none => exact .armed_set hc rfl rfl hout
    | some q => exact .armed_set (d := { s.answeredChannel c with inq := q }) hc rfl rfl hout
  · exact .ignored hlive

theorem masterPollFrame_goesOn (hcur : s.curState = .poll) (hlive : s.Awaits) : s.GoesOn (masterPollFrame s) := by
  unfold masterPollFrame
  split
  case h_1 =>
    rw [masterPollEot_eq hc]
    exact .posts (State.mayPost_idle (.inl hcur))
  case h_2 => exact masterPollRespond_goesOn hc hlive
  case h_3 => exact .armed rfl rfl
  case h_4 => exact .ignored hlive

theorem masterPoll_goesOn {ev : Event} (hcur : s.curState = .poll) (hlive : ev ≠ .timeout → s.Awaits)
    (hev : ev = .frame ∨ ev = .loopback ∨ ev = .timeout) : s.GoesOn (masterPoll s ev) := by
  rcases hev with rfl | rfl | rfl
  · have hlive := hlive (by decide)
    by_cases hsub : s.pollSub = .replyWait
    · rw [masterPoll_replyWait_frame hsub]
      exact masterPollFrame_goesOn hc hcur hlive
    · rw [masterPoll_frame_ignored fun ⟨h, _⟩ => hsub h]
      exact .ignored hlive
  · by_cases hsub : s.pollSub = .sendWait
    · rw [masterPoll_sendWait_loopback hsub]
      exact .armed rfl rfl
    · rw [masterPoll_loopback_ignored hsub]
      exact .ignored (hlive (by decide))
  · exact masterPoll_timeout_goesOn hc hcur

theorem masterSelectNack_goesOn (hcur : s.curState = .select) : s.GoesOn (masterSelectNack s) := by
  by_cases hretry : c.retry < maxRetry
  · rw [masterSelectNack_of_lt hc hretry]
    exact .armed_set hc rfl rfl rfl
  · rw [masterSelectNack_of_not_lt hc hretry]
    exact .posts (State.mayPost_idle (.inr hcur))

theorem masterSelect_goesOn {ev : Event} (hcur : s.curState = .select) (hlive : ev ≠ .timeout → s.Awaits)
    (hev : ev = .frame ∨ ev = .loopback ∨ ev = .timeout) : s.GoesOn (masterSelect s ev) := by
  rcases hev with rfl | rfl | rfl
  · have hlive := hlive (by decide)
    by_cases hsub : s.selectSub = .replyAckWaitOrSendAckDelay
    · rw [masterSelect_replyWait_frame hsub]
      unfold masterSelectFrame
      split
      case h_1 => exact .posts (State.mayPost_idle (.inr hcur))
      case h_2 => exact masterSelectNack_goesOn hc hcur
      case h_3 => exact .ignored hlive
    · rw [masterSelect_frame_ignored fun ⟨h, _⟩ => hsub h]
      exact .ignored hlive
  · by_cases hsub : s.selectSub = .sendWaitOrReceiveWait
    · rw [masterSelect_sendWait_loopback hsub]
      exact .armed rfl rfl
    · rw [masterSelect_loopback_ignored hsub]
      exact .ignored (hlive (by decide))
  · rw [masterSelect_timeout]
    exact .posts (State.mayPost_idle (.inr hcur))

theorem masterPollEntry_goesOn : s.GoesOn (masterPollEntry s) := by
  rw [masterPollEntry_eq hc]
  exact .armed rfl rfl

/-- Without a packet to send the master goes back to IDLE (44_master.md R258). -/
theorem masterSelectEntry_goesOn (hcur : s.curState = .select) (hnone : s.pendingEvent = .none) :
    s.GoesOn (masterSelectEntry s) := by
  cases hget : c.outq.get with
  | none =>
    rw [masterSelectEntry_of_nil hc (Queue.get_eq_none.mp hget)]
    exact .posts (State.mayPost_idle (.inr hcur))
  | some taken =>
    rw [masterSelectEntry_of_get hc hget]
    exact .waits (fun _ => .inl rfl) (.inl hnone)

end

/-! ## The slave -/

section
variable (hc : s.channel 0 = some c)

theorem State.mayPost_select (hrole : s.role = .slave) (hcur : s.curState = .poll) : s.MayPost .select where
  ne_init := by decide
  ne_cur  := by rw [hcur]; decide
  slave _ := hrole

theorem State.mayPost_poll (hcur : s.curState = .select) : s.MayPost .poll where
  ne_init := by decide
  ne_cur  := by rw [hcur]; decide
  slave   := nofun

theorem slavePollEcho_goesOn (hrole : s.role = .slave) (hcur : s.curState = .poll) (hlive : s.Awaits) :
    s.GoesOn (slavePollEcho s) := by
  unfold slavePollEcho
  split
  · exact .posts (State.mayPost_select hrole hcur)
  split
  · exact .armed rfl rfl
  · exact .ignored hlive

include hc

theorem slavePollNack_goesOn : s.GoesOn (slavePollNack s) := by
  by_cases hretry : c.retry < maxRetry
  · rw [slavePollNack_of_lt hc hretry]
    exact .armed_set hc rfl rfl rfl
  · rw [slavePollNack_of_not_lt hc hretry]
    exact .armed_set hc rfl rfl rfl

/-- The master's missing or unexpected answer ends the exchange; an ACK or a NACK is followed by another frame. -/
theorem slavePollFrame_goesOn (hrole : s.role = .slave) (hcur : s.curState = .poll) (hlive : s.Awaits) :
    s.GoesOn (slavePollFrame s) := by
  have abort : s.GoesOn (slavePollAbort s) := .posts (State.mayPost_select hrole hcur)
  unfold slavePollFrame
  split
  case h_1 =>
    rw [slavePollAck_eq hc]
    exact .armed_set hc rfl rfl rfl
  case h_2 => exact slavePollNack_goesOn hc
  case h_3 => exact abort
  case h_4 => exact abort
  case h_5 => exact abort
  case h_6 => exact .ignored hlive

theorem slavePoll_timeout_goesOn (hrole : s.role = .slave) (hcur : s.curState = .poll) :
    s.GoesOn (slavePoll s .timeout) := by
  cases hsub : s.pollSub with
  | sendDelay =>
    rw [slavePoll_delay_timeout (.inl hsub)]
    exact .armed rfl rfl
  | sendWait =>
    rw [slavePoll_sendWait_timeout hsub]
    exact .posts (State.mayPost_select hrole hcur)
  | replyWait =>
    rw [slavePoll_replyWait_timeout hsub, slavePollTimeout_eq hc]
    exact .posts (State.mayPost_select hrole hcur)
  | sendAckDelay =>
    rw [slavePoll_delay_timeout (.inr hsub)]
    exact .armed rfl rfl

theorem slavePoll_goesOn {ev : Event} (hrole : s.role = .slave) (hcur : s.curState = .poll)
    (hlive : ev ≠ .timeout → s.Awaits) (hev : ev = .frame ∨ ev = .loopback ∨ ev = .timeout) :
    s.GoesOn (slavePoll s ev) := by
  rcases hev with rfl | rfl | rfl
  · have hlive := hlive (by decide)
    by_cases hsub : s.pollSub = .replyWait
    · rw [slavePoll_replyWait_frame hsub]
      exact slavePollFrame_goesOn hc hrole hcur hlive
    · rw [slavePoll_frame_ignored fun ⟨h, _⟩ => hsub h]
      exact .ignored hlive
  · have hlive := hlive (by decide)
    by_cases hsub : s.pollSub = .sendWait
    · rw [slavePoll_sendWait_loopback hsub]
      exact slavePollEcho_goesOn hrole hcur hlive
    · rw [slavePoll_loopback_ignored hsub]
      exact .ignored hlive
  · exact slavePoll_timeout_goesOn hc hrole hcur

/-- The SELECT is queued or dropped, and answered or not: what is awaited depends on the answer alone. -/
theorem slaveSelectData_goesOn (hlive : s.Awaits) : s.GoesOn (slaveSelectData s) := by
  cases haddr : addrOk s.stationAddress s.rxPacket.address with
  | false =>
    rw [slaveSelectData_of_foreign haddr]
    exact .ignored hlive
  | true =>
    rw [slaveSelectData_of_addrOk hc haddr]
    cases howed : isReply s.stationAddress s.rxPacket.address with
    | false =>
      split
      · rw [slaveSelectAnswer_of_not_owed (by exact howed)]
        exact .waits hlive (.inr fun _ => rfl)
      · rw [slaveSelectAnswer_of_not_owed (by exact howed)]
        exact .waits hlive (.inr (.of_set hc rfl rfl))
    | true =>
      split
      · rw [slaveSelectAnswer_of_owed (by exact howed)]
        exact .armed rfl rfl
      · rw [slaveSelectAnswer_of_owed (by exact howed)]
        exact .armed_set hc rfl rfl rfl

theorem slaveSelectFrame_goesOn (hcur : s.curState = .select) (hlive : s.Awaits) : s.GoesOn (slaveSelectFrame s) := by
  unfold slaveSelectFrame
  split
  case h_1 =>
    by_cases hmust : s.mustAnswer = true
    · rw [slaveSelectPoll_of_mustAnswer hc hmust]
      exact .posts (State.mayPost_poll hcur)
    · rw [slaveSelectPoll_observed hmust]
      exact .ignored hlive
  case h_2 => exact slaveSelectData_goesOn hc hlive
  case h_3 =>
    by_cases hmust : s.mustAnswer = true
    · rw [slaveSelectError_of_mustAnswer hmust]
      exact .armed rfl rfl
    · rw [slaveSelectError_ignored hmust]
      exact .ignored hlive
  case h_4 => exact .ignored hlive

/-- After a TIMEOUT the slave waits for its master, with or without a deadline. -/
theorem slaveSelect_timeout_goesOn (hrole : s.role = .slave) (hcur : s.curState = .select) :
    s.GoesOn (slaveSelect s .timeout) := by
  cases hsub : s.selectSub with
  | sendWaitOrReceiveWait =>
    rw [slaveSelect_receiveWait_timeout hsub, slaveSelectDeadline_eq hc]
    exact .waits (fun _ => .inr ⟨hrole, hcur, hsub⟩) (.inr (.of_set hc rfl rfl))
  | replyAckWaitOrSendAckDelay =>
    rw [slaveSelect_sendAckDelay_timeout hsub, slaveSelectReply_eq hc]
    exact .waits (fun _ => .inr ⟨hrole, hcur, rfl⟩) (.inr fun _ => rfl)

theorem slaveSelect_goesOn {ev : Event} (hrole : s.role = .slave) (hcur : s.curState = .select)
    (hlive : ev ≠ .timeout → s.Awaits) (hev : ev = .frame ∨ ev = .loopback ∨ ev = .timeout) :
    s.GoesOn (slaveSelect s ev) := by
  rcases hev with rfl | rfl | rfl
  · have hlive := hlive (by decide)
    by_cases hsub : s.selectSub = .sendWaitOrReceiveWait
    · rw [slaveSelect_receiveWait_frame hsub]
      exact slaveSelectFrame_goesOn hc hcur hlive
    · rw [slaveSelect_frame_ignored fun ⟨h, _⟩ => hsub h]
      exact .ignored hlive
  · rw [slaveSelect_loopback_ignored]
    exact .ignored (hlive (by decide))
  · exact slaveSelect_timeout_goesOn hc hrole hcur

theorem slavePollEntry_goesOn (hnone : s.pendingEvent = .none) : s.GoesOn (slavePollEntry s) := by
  rw [slavePollEntry, State.onChannel_some _ hc]
  split
  · cases c.outq.get with
    | none => exact .armed rfl rfl
    | some taken => exact .waits (fun _ => .inl rfl) (.inl hnone)
  · exact .armed rfl rfl

theorem slaveSelectEntry_goesOn (hrole : s.role = .slave) (hcur : s.curState = .select) :
    s.GoesOn (slaveSelectEntry s) := by
  rw [slaveSelectEntry_eq hc]
  exact .waits (fun _ => .inr ⟨hrole, hcur, rfl⟩) (.inr fun _ => rfl)

end

/-! ## Every rule of an exchange -/

theorem State.DispatchOk.handle_goesOn {ev : Event} (h : s.DispatchOk)
    (hcur : s.curState = .poll ∨ s.curState = .select) (hlive : ev ≠ .timeout → s.Awaits)
    (hev : ev = .frame ∨ ev = .loopback ∨ ev = .timeout) : s.GoesOn (s.handle ev) := by
  obtain ⟨-, c, hc⟩ := h.exists_channel hcur
  cases hrole : s.role with
  | master =>
    rcases hcur with hcur | hcur
    · rw [State.handle_of_masterPoll hrole hcur]
      exact masterPoll_goesOn hc hcur hlive hev
    · rw [State.handle_of_masterSelect hrole hcur]
      exact masterSelect_goesOn hc hcur hlive hev
  | slave =>
    rw [h.curIndex_eq_zero hrole hcur] at hc
    rcases hcur with hcur | hcur
    · rw [State.handle_of_slavePoll hrole hcur]
      exact slavePoll_goesOn hc hrole hcur hlive hev
    · rw [State.handle_of_slaveSelect hrole hcur]
      exact slaveSelect_goesOn hc hrole hcur hlive hev

/-- The entry hook of the state that was just entered. -/
theorem State.DispatchOk.entryHook_goesOn (h : s.DispatchOk) (hcur : s.curState = .poll ∨ s.curState = .select)
    (hnone : s.pendingEvent = .none) : s.GoesOn (s.entryHook s.curState) := by
  obtain ⟨-, c, hc⟩ := h.exists_channel hcur
  cases hrole : s.role with
  | master =>
    rcases hcur with hcur | hcur <;> rw [hcur]
    · rw [State.entryHook_poll_of_master hrole]
      exact masterPollEntry_goesOn hc
    · rw [State.entryHook_select_of_master hrole]
      exact masterSelectEntry_goesOn hc hcur hnone
  | slave =>
    rw [h.curIndex_eq_zero hrole hcur] at hc
    rcases hcur with hcur | hcur <;> rw [hcur]
    · rw [State.entryHook_poll_of_slave hrole]
      exact slavePollEntry_goesOn hc hnone
    · rw [State.entryHook_select_of_slave hrole]
      exact slaveSelectEntry_goesOn hc hrole hcur

/-- INIT and IDLE ignore every event but their own (43_engine.md R222, 44_master.md R245, 45_slave.md R280). -/
theorem State.handle_ignored {ev : Event} (hcur : s.curState = .init ∨ s.curState = .idle) (hinit : ev ≠ .init)
    (hjump : ev ≠ .jumpState) : s.handle ev = s := by
  rcases hcur with hcur | hcur
  · exact State.handle_of_init hcur hinit
  · cases hrole : s.role with
    | master => rw [State.handle_of_masterIdle hrole hcur, masterIdle_ignored hjump]
    | slave => rw [State.handle_of_slaveIdle hrole hcur, slaveIdle_ignored hjump]

/-- A frame, an echo or a TIMEOUT leaves a sound control state. No TIMEOUT finds the block in INIT or IDLE. -/
theorem State.DispatchOk.handle_controlOk {ev : Event} (h : s.DispatchOk) (hlive : ev ≠ .timeout → s.Awaits)
    (hev : ev = .frame ∨ ev = .loopback ∨ ev = .timeout)
    (hrest : ev = .timeout → ¬ (s.curState = .init ∨ s.curState = .idle)) : (s.handle ev).ControlOk := by
  have hinit : ev ≠ .init := by rcases hev with rfl | rfl | rfl <;> decide
  have hjump : ev ≠ .jumpState := by rcases hev with rfl | rfl | rfl <;> decide
  by_cases hcur : s.curState = .init ∨ s.curState = .idle
  · rw [State.handle_ignored hcur hinit hjump]
    exact h.controlOk (hlive fun htimeout => hrest htimeout hcur)
  · have hexchange : s.curState = .poll ∨ s.curState = .select := by
      cases hs : s.curState with
      | init => exact absurd (.inl hs) hcur
      | idle => exact absurd (.inr hs) hcur
      | poll => exact .inl rfl
      | select => exact .inr rfl
    exact (h.handle_goesOn hexchange hlive hev).controlOk h hexchange (s.handle_sameRecord ev)
      (s.handle_ruleMoves hinit).curState (s.handle_slotsAdvance ev)

/-! ## A jump -/

/-- A jump posted from IDLE leaves a sound control state where the exchange that it starts has its channel. -/
theorem State.post_controlOk_of_idle {target : TopState} (hrun : s.running = true) (hcur : s.curState = .idle)
    (htimer : s.stateTimer.armed = false) (hslot : s.role = .slave → s.curValid = true → s.curIndex = 0)
    (hinit : target ≠ .init) (hexists : target = .poll ∨ target = .select → s.CurrentExists)
    (hready : s.role = .master → target = .select → (s.channel s.curIndex).any (fun c => !c.outq.isEmpty) = true) :
    (s.post .jumpState target).ControlOk := by
  have noExchange : ¬ (s.curState = .poll ∨ s.curState = .select) := by simp [hcur]
  have posted : (s.post .jumpState target).DispatchOk :=
    { running  := hrun
      pending  := ⟨.inr (.inr rfl), nofun, fun _ => ⟨hinit, fun _ => hcur⟩⟩
      exchange := ⟨fun h => absurd h noExchange, fun _ => hexists, hslot⟩
      ready    := fun hmaster _ => hready hmaster
      quiet    := fun _ => htimer }
  exact posted.controlOk nofun

/-- The scheduler posts SELECT only for a channel that has a packet to send (44_master.md R242). -/
theorem State.visit_controlOk (hrun : s.running = true) (hrole : s.role = .master) (hcur : s.curState = .idle)
    (htimer : s.stateTimer.armed = false) (hvalid : s.curValid = true) (hc : s.channel s.curIndex = some c) :
    (s.visit s.curIndex c).ControlOk := by
  have noSlave : s.role = .slave → s.curValid = true → s.curIndex = 0 := by simp [hrole]
  have written (d : Channel) {target : TopState} (hinit : target ≠ .init)
      (hready : target = .select → d.outq.isEmpty = false) :
      ((s.setChannel s.curIndex d).post .jumpState target).ControlOk :=
    State.post_controlOk_of_idle hrun hcur htimer noSlave hinit (fun _ => ⟨hvalid, by simp⟩)
      fun _ hselect => by simp [hready hselect]
  have posted {target : TopState} (hinit : target ≠ .init) (hselect : target ≠ .select) :
      (s.post .jumpState target).ControlOk :=
    State.post_controlOk_of_idle hrun hcur htimer noSlave hinit (fun _ => ⟨hvalid, by simp [hc]⟩)
      fun _ h => absurd h hselect
  cases hstate : c.state with
  | init =>
    rw [State.visit_init hstate]
    exact posted (by decide) (by decide)
  | online =>
    by_cases hdue : c.selectDue = true
    · rw [State.visit_online_select hstate hdue]
      have hqueue : c.outq.isEmpty = false := by simpa [Queue.isEmpty] using (Channel.selectDue_iff.mp hdue).1
      exact written _ (by decide) fun _ => hqueue
    · rw [State.visit_online_poll hstate hdue]
      unfold State.visitOnlinePoll
      split
      · exact written _ (by decide) nofun
      split
      · exact written _ (by decide) nofun
      · exact written _ (by decide) nofun
  | offline =>
    rw [State.visit_offline hstate]
    unfold State.visitOffline
    split
    · exact written _ (by decide) nofun
    · exact posted (by decide) (by decide)

theorem State.schedule_controlOk (hrun : s.running = true) (hrole : s.role = .master) (hcur : s.curState = .idle)
    (htimer : s.stateTimer.armed = false) : s.schedule.ControlOk := by
  cases hr : s.advanceRoundRobin with
  | none =>
    rw [State.schedule_of_no_channel (s.advanceRoundRobin_eq_none.mp hr)]
    exact State.post_controlOk_of_idle hrun hcur htimer (by simp [hrole]) (by decide) (by simp) nofun
  | some r =>
    obtain ⟨c, hc⟩ := Option.isSome_iff_exists.mp (State.advanceRoundRobin_occupied hr)
    rw [State.schedule_of_next hr hc]
    exact State.visit_controlOk (s := { s with curIndex := r, curValid := true }) hrun hrole hcur htimer rfl hc

theorem slaveIdleJump_controlOk (hrun : s.running = true) (hrole : s.role = .slave) (hcur : s.curState = .idle)
    (htimer : s.stateTimer.armed = false) (hslot : s.curValid = true → s.curIndex = 0) :
    (slaveIdleJump s).ControlOk := by
  cases hc : s.channel 0 with
  | none =>
    rw [slaveIdleJump_of_none hc]
    exact State.post_controlOk_of_idle hrun hcur htimer (fun _ => hslot) (by decide) (by simp) nofun
  | some c =>
    rw [slaveIdleJump_of_some hc]
    refine State.post_controlOk_of_idle hrun hcur htimer (fun _ _ => rfl) (by decide) (fun _ => ⟨rfl, ?slot⟩)
      fun hmaster => nomatch hrole.symm.trans hmaster
    case slot => exact congrArg Option.isSome (s.channel_setChannel_self 0 _)

/-- The jump is made: what was posted for the new state now holds of the current one. -/
theorem State.ControlOk.tickJump (h : s.ControlOk) (hrun : s.running = true) (hjump : s.pendingEvent = .jumpState) :
    s.tickJump.DispatchOk := by
  obtain ⟨-, -, ⟨-, entered, slot0⟩, -, quiet, -⟩ := h
  refine
    { running  := hrun
      pending  := ⟨.inl rfl, nofun, nofun⟩
      exchange := ⟨entered hjump, nofun, slot0⟩
      ready    := nofun
      quiet    := fun hcur => ?quiet }
  case quiet =>
    by_cases hstay : s.nextState = s.curState
    · rw [State.tickJump_eq_tickPending hstay] at hcur ⊢
      exact quiet hcur
    · show (if s.nextState = s.curState then s.stateTimer else { s.stateTimer with armed := false }).armed = false
      rw [if_neg hstay]

theorem exec_tick_jump_controlOk (h : s.ControlOk) (hdue : s.PendingDue .jumpState) :
    ∃ t, exec .tick s = .next t ∧ t.ControlOk := by
  have ⟨hrun, _, hjump, _⟩ := hdue
  have jumped := h.tickJump hrun hjump
  by_cases hidle : s.nextState = .idle
  · refine ⟨_, exec_tick_jump_idle hdue hidle, ?_⟩
    have htimer : s.tickJump.stateTimer.armed = false := jumped.quiet (.inr hidle)
    cases hrole : s.role with
    | master =>
      rw [State.handle_of_masterIdle (s := s.tickJump) hrole hidle]
      exact State.schedule_controlOk jumped.running hrole hidle htimer
    | slave =>
      rw [State.handle_of_slaveIdle (s := s.tickJump) hrole hidle]
      obtain ⟨-, -, slot0⟩ := jumped.exchange
      exact slaveIdleJump_controlOk jumped.running hrole hidle htimer (slot0 hrole)
  · obtain ⟨-, ⟨-, -, target⟩, -⟩ := h
    obtain ⟨hinit, hstay⟩ := target hjump
    have hnext : s.nextState = .poll ∨ s.nextState = .select := by
      cases hs : s.nextState with
      | init => exact absurd hs hinit
      | idle => exact absurd hs hidle
      | poll => exact .inl rfl
      | select => exact .inr rfl
    have hchange : s.curState ≠ s.nextState := fun hsame => hidle (hsame.symm.trans (hstay hsame.symm))
    exact ⟨_, exec_tick_jump_enter hdue hnext hchange,
      (jumped.entryHook_goesOn hnext rfl).controlOk jumped hnext (State.entryHook_sameRecord _ _)
        (State.entryHook_curState _ _) (State.entryHook_slotsAdvance _ _)⟩

/-! ## The tick -/

/-- After the INIT event IDLE is pending, and there is no current channel (43_engine.md R222). -/
theorem State.dispatch_init_controlOk (hrun : s.running = true) : (s.dispatch .init).ControlOk := by
  rw [State.dispatch_init]
  refine State.DispatchOk.controlOk
    { running  := hrun
      pending  := ⟨.inr (.inr rfl), nofun, fun _ => ⟨nofun, nofun⟩⟩
      exchange := ⟨by simp, by simp, nofun⟩
      ready    := nofun
      quiet    := fun _ => rfl } nofun

/-- A TIMEOUT is the state timer's own, so the block is in an exchange. -/
theorem exec_tick_timeout_controlOk (h : s.ControlOk) (hdue : s.TimeoutDue) :
    ∃ t, exec .tick s = .next t ∧ t.ControlOk := by
  have ⟨hrun, _, _, harmed, _⟩ := hdue
  have ok := h.dispatchOk hrun
  have hrest : ¬ (s.curState = .init ∨ s.curState = .idle) := fun hcur => nomatch harmed.symm.trans (ok.quiet hcur)
  have consumed : s.tickTimeout.DispatchOk :=
    ⟨hrun, ok.pending, ok.exchange, ok.ready, fun _ => rfl⟩
  exact ⟨_, exec_tick_timeout_handle hdue,
    consumed.handle_controlOk (absurd rfl) (.inr (.inr rfl)) fun _ => hrest⟩

theorem exec_tick_controlOk (h : s.ControlOk) : ∃ t, exec .tick s = .next t ∧ t.ControlOk := by
  cases hrun : s.running with
  | false => exact ⟨_, exec_tick_stopped hrun, h⟩
  | true =>
    have ⟨running, pending, exchange, ready, quiet⟩ := h.dispatchOk hrun
    have hlive := h.awaits hrun
    rcases tick_finds s with hstopped | hnothing | hgarbage | hecho | ⟨k, p, hreceive⟩ | ⟨e, hpending⟩ | htimeout
    · exact nomatch hstopped.symm.trans hrun
    · exact ⟨_, exec_tick_nothing hnothing,
        State.DispatchOk.controlOk ⟨running, pending, exchange, ready, quiet⟩ hlive⟩
    · exact ⟨_, exec_tick_garbage hgarbage,
        State.DispatchOk.controlOk ⟨running, pending, exchange, ready, quiet⟩ hlive⟩
    · have ok : s.tickEcho.DispatchOk := ⟨running, pending, exchange, ready, quiet⟩
      exact ⟨_, exec_tick_echo_handle hecho, ok.handle_controlOk (fun _ => hlive) (.inr (.inl rfl)) nofun⟩
    · have ok : (s.tickFrame k p).DispatchOk := ⟨running, pending, exchange, ready, quiet⟩
      exact ⟨_, exec_tick_frame_handle hreceive, ok.handle_controlOk (fun _ => hlive) (.inl rfl) nofun⟩
    · have ⟨_, _, hevent, hsome⟩ := hpending
      obtain ⟨hnone | hinit | hjump, -, -⟩ := pending
      · exact absurd (hevent.symm.trans hnone) hsome
      · obtain rfl : e = .init := hevent.symm.trans hinit
        exact ⟨_, exec_tick_pending hpending, State.dispatch_init_controlOk (s := s.tickPending) hrun⟩
      · obtain rfl : e = .jumpState := hevent.symm.trans hjump
        exact exec_tick_jump_controlOk h hpending
    · exact exec_tick_timeout_controlOk h htimeout

/-! ## Every instruction -/

/-- Nothing has started, whatever the role (46_host.md R321). -/
theorem exec_init_controlOk (r : Role) (a : Byte) (s : State) : ∃ t, exec (.init r a) s = .next t ∧ t.ControlOk :=
  ⟨_, rfl, fun _ => ⟨rfl, rfl, rfl, rfl, rfl⟩, ⟨.inl rfl, nofun, nofun⟩, ⟨by simp [State.resetWith], nofun, nofun⟩,
    nofun, fun _ => rfl, nofun⟩

theorem exec_start_controlOk (h : s.ControlOk) : ∃ t, exec .start s = .next t ∧ t.ControlOk := by
  cases hrun : s.running with
  | true => exact ⟨_, exec_start_running hrun, h⟩
  | false =>
    obtain ⟨stopped, -, ⟨current, -, slot0⟩, -, quiet, -⟩ := h
    obtain ⟨hcur, -⟩ := stopped hrun
    refine ⟨_, exec_start_stopped hrun, State.DispatchOk.controlOk
      { running  := rfl
        pending  := ⟨.inr (.inl rfl), fun _ => hcur, nofun⟩
        exchange := ⟨current, nofun, slot0⟩
        ready    := nofun
        quiet    := quiet } nofun⟩

/-- Only the tick empties an outbound queue (20_memory.md R95). -/
theorem OutboundMoves.has_packet {i : Instr} (h : OutboundMoves i c d) (htick : i ≠ .tick)
    (hc : (!c.outq.isEmpty) = true) : (!d.outq.isEmpty) = true := by
  unfold Queue.isEmpty at hc ⊢
  rcases h with hsame | ⟨_, _, _, q, _, hsent⟩ | ⟨hi, _⟩
  · rw [hsame]
    exact hc
  · rw [hsent]
    simp
  · exact absurd hi htick

theorem isInit_eq_false_of_quiet {i : Instr} (hquiet : isQuietCommand i = true) : isInit i = false := by
  cases i with
  | init => exact nomatch hquiet
  | _ => rfl

/-- The other host commands free no slot and take no packet from an outbound queue (42_registry.md R181, 20_memory.md
R95). -/
theorem exec_quiet_controlOk {i : Instr} (h : s.ControlOk) (hquiet : isQuietCommand i = true) (hstart : i ≠ .start) :
    ∃ t, exec i s = .next t ∧ t.ControlOk := by
  have hinit := isInit_eq_false_of_quiet hquiet
  obtain ⟨slots, r, ht⟩ := exec_quiet_eq s hquiet hstart
  obtain ⟨_, ht₁, hkeeps⟩ := exec_keepsSlots s i hinit
  obtain ⟨_, ht₂, hmove⟩ := exec_queuesMove s i hinit
  rw [ht] at ht₁ ht₂
  cases ht₁
  cases ht₂
  obtain ⟨stopped, pending, ⟨current, entered, slot0⟩, ready, quiet, live⟩ := h
  have exists_of (hs : s.CurrentExists) : State.CurrentExists { s with channels := slots, reply := r } := by
    obtain ⟨hvalid, hsome⟩ := hs
    obtain ⟨c, hc⟩ := Option.isSome_iff_exists.mp hsome
    obtain ⟨d, hd, -⟩ := hkeeps _ c hc
    exact ⟨hvalid, Option.isSome_iff_exists.mpr ⟨d, hd⟩⟩
  refine ⟨_, ht, stopped, pending, ⟨fun hcur => exists_of (current hcur),
    fun hjump hnext => exists_of (entered hjump hnext), slot0⟩, fun hmaster hjump hselect => ?ready, quiet, live⟩
  case ready =>
    obtain ⟨c, hc, hqueue⟩ := (Option.any_eq_true _ _).mp (ready hmaster hjump hselect)
    obtain ⟨d, hd, -⟩ := hkeeps _ c hc
    obtain ⟨hout, -⟩ := hmove _ c d hc hd
    have htick : i ≠ .tick := by
      rintro rfl
      exact nomatch hquiet
    exact (Option.any_eq_true _ _).mpr ⟨d, hd, hout.has_packet htick hqueue⟩

/-- The control state has no part in the framer. -/
theorem State.ControlOk.receiveBytes (h : s.ControlOk) (bytes : List Byte) : (s.receiveBytes bytes).ControlOk := by
  obtain ⟨_, _, _, _, heq⟩ := s.exists_receiveBytes_eq bytes
  rw [heq]
  exact h

theorem exec_controlOk (h : s.ControlOk) (i : Instr) : ∃ t, exec i s = .next t ∧ t.ControlOk := by
  have delivered (bytes : List Byte) : ((s.withReply []).receiveBytes bytes).ControlOk :=
    State.ControlOk.receiveBytes (s := s.withReply []) h bytes
  cases i with
  | init r a => exact exec_init_controlOk r a s
  | start => exact exec_start_controlOk h
  | createChannel | send | receive | isDataAvailable | channelState | readStatus | readChannel =>
    exact exec_quiet_controlOk h rfl nofun
  | tick => exact exec_tick_controlOk h
  | rxByte b => exact ⟨_, rfl, delivered [b]⟩
  | ack | nack | eot | poll | select | respond => exact ⟨_, rfl, delivered _⟩

/-- Settles O49: an input that decodes is an instruction, any other bytes reach the framer alone. -/
theorem everyStepKeepsTheControlState : Obligations.EveryStepKeepsTheControlState := by
  intro s t hs ht
  have taken (rest : List Strobe) : ({ s with input := rest } : State).ControlOk := hs
  rcases step_cases s with ⟨-, hstep⟩ | ⟨x, rest, i, -, -, hstep⟩ | ⟨x, rest, e, -, -, hstep⟩ <;> rw [hstep] at ht
  · cases ht
    exact hs
  · obtain ⟨t', ht', hok⟩ := exec_controlOk (taken rest) i
    rw [ht] at ht'
    cases ht'
    exact hok
  · cases ht
    cases x with
    | record bytes => exact hs
    | frame bytes => exact State.ControlOk.receiveBytes (s := State.withReply { s with input := rest } []) hs bytes

end Sys2Proof.Machine
end
